-- ==== Sys2Proof/Word.lean ====
section
/-! DEFINITION. The word types of the MC6809E: 8-bit data and 16-bit addresses (spec/00_scope.md R9, R11). -/

namespace Sys2Proof

/-- An 8-bit value: an accumulator, DP, a memory cell, a device register (R9). -/
abbrev Byte := BitVec 8

/-- A 16-bit value: X, Y, U, S, PC, D, an address; its arithmetic is modulo 2^16 (R9, R11). -/
abbrev Word := BitVec 16

end Sys2Proof
end

