-- ==== Sys2Proof/Machine/Bits.lean ====
section
/-! DEFINITION. Bit fields, byte order and extension, written once (spec/00_scope.md R11, spec/20_memory.md R90). -/

namespace Sys2Proof

/-- `h:l`, the high byte first (R11, R90). -/
def joinBytes (h l : Byte) : Word := h ++ l

/-- Bits 15..8 of a 16-bit value. -/
def hiByte (w : Word) : Byte := w.extractLsb' 8 8

/-- Bits 7..0 of a 16-bit value. -/
def loByte (w : Word) : Byte := w.extractLsb' 0 8

/-- `sext_16` of an 8-bit value (R11). -/
def sext8 (b : Byte) : Word := b.signExtend 16

/-- `sext_16` of the 5-bit offset of an indexed post-byte (R11, spec/30_encoding.md R131). -/
def sext5 (n : BitVec 5) : Word := n.signExtend 16

/-- `zext_16` of an 8-bit value (R11). -/
def zext8 (b : Byte) : Word := b.setWidth 16

/-- Bit `i` of a byte, `v[i]` of R11. -/
def bit (v : Byte) (i : Nat) : Bool := v.getLsbD i

end Sys2Proof
end

