-- ==== Sys2Proof/Syntax.lean ====
section
/-! DEFINITION. The syntax of the instruction set: one constructor of `Instr` per row of spec/opcode_table.json
(spec/30_encoding.md R120 to R148). An alias of R153 is the same row and the same constructor. -/

namespace Sys2Proof

/-- The base register that bits 6:5 of an indexed post-byte select: 00 X, 01 Y, 10 U, 11 S (R130). -/
inductive IndexReg where
  | x | y | u | s
deriving DecidableEq, Repr, Inhabited

/-- The rows of the post-byte table R131 before indirection. The PC-relative and extended rows carry the two `rr` bits
that the hardware does not read, so that no bit of an encoding is lost (log 26). -/
inductive IndexForm where
  | off5 (r : IndexReg) (n : BitVec 5)
  | inc1 (r : IndexReg)
  | inc2 (r : IndexReg)
  | dec1 (r : IndexReg)
  | dec2 (r : IndexReg)
  | zero (r : IndexReg)
  | accB (r : IndexReg)
  | accA (r : IndexReg)
  | off8 (r : IndexReg) (n : Byte)
  | off16 (r : IndexReg) (n : Word)
  | accD (r : IndexReg)
  | pcr8 (rr : IndexReg) (n : Byte)
  | pcr16 (rr : IndexReg) (n : Word)
  | ext (rr : IndexReg) (n : Word)
deriving DecidableEq, Repr, Inhabited

/-- An indexed operand: the row and the indirect bit `i` of R134. -/
structure Indexed where
  form : IndexForm
  indirect : Bool
deriving DecidableEq, Repr, Inhabited

/-- The registers a TFR or EXG post-byte names (R140). -/
inductive Reg where
  | d | x | y | u | s | pc | a | b | cc | dp
deriving DecidableEq, Repr, Inhabited

/-- A 16-bit register (R140). -/
def Reg.is16 (r : Reg) : Bool :=
  match r with
  | .d => true
  | .x => true
  | .y => true
  | .u => true
  | .s => true
  | .pc => true
  | .a => false
  | .b => false
  | .cc => false
  | .dp => false

/-- An operand in memory: direct, indexed or extended (R124, R125, R131). -/
inductive MemOperand where
  | dir (lo : Byte)
  | idx (ix : Indexed)
  | ext (a : Word)
deriving DecidableEq, Repr, Inhabited

/-- An 8-bit operand: immediate or in memory (R127). -/
inductive Operand8 where
  | imm (v : Byte)
  | mem (m : MemOperand)
deriving DecidableEq, Repr, Inhabited

/-- A 16-bit operand: immediate or in memory (R127). -/
inductive Operand16 where
  | imm (v : Word)
  | mem (m : MemOperand)
deriving DecidableEq, Repr, Inhabited

/-- The instructions. A direct form carries the low address byte, an extended form the address, an indexed form the
operand of its post-byte, a branch its offset, a TFR or EXG its two registers, a PSH or PUL its register list. In the
order of the table, the inherent rows last. -/
inductive Instr where
  | negDir (lo : Byte)
  | comDir (lo : Byte)
  | lsrDir (lo : Byte)
  | rorDir (lo : Byte)
  | asrDir (lo : Byte)
  | lslDir (lo : Byte)
  | rolDir (lo : Byte)
  | decDir (lo : Byte)
  | incDir (lo : Byte)
  | tstDir (lo : Byte)
  | jmpDir (lo : Byte)
  | clrDir (lo : Byte)
  | lbra (off : Word)
  | lbsr (off : Word)
  | orcc (v : Byte)
  | andcc (v : Byte)
  | exg (src : Reg) (dst : Reg)
  | tfr (src : Reg) (dst : Reg)
  | bra (off : Byte)
  | brn (off : Byte)
  | bhi (off : Byte)
  | bls (off : Byte)
  | bhs (off : Byte)
  | blo (off : Byte)
  | bne (off : Byte)
  | beq (off : Byte)
  | bvc (off : Byte)
  | bvs (off : Byte)
  | bpl (off : Byte)
  | bmi (off : Byte)
  | bge (off : Byte)
  | blt (off : Byte)
  | bgt (off : Byte)
  | ble (off : Byte)
  | leax (ix : Indexed)
  | leay (ix : Indexed)
  | leas (ix : Indexed)
  | leau (ix : Indexed)
  | pshs (pb : Byte)
  | puls (pb : Byte)
  | pshu (pb : Byte)
  | pulu (pb : Byte)
  | cwai (v : Byte)
  | negIdx (ix : Indexed)
  | comIdx (ix : Indexed)
  | lsrIdx (ix : Indexed)
  | rorIdx (ix : Indexed)
  | asrIdx (ix : Indexed)
  | lslIdx (ix : Indexed)
  | rolIdx (ix : Indexed)
  | decIdx (ix : Indexed)
  | incIdx (ix : Indexed)
  | tstIdx (ix : Indexed)
  | jmpIdx (ix : Indexed)
  | clrIdx (ix : Indexed)
  | negExt (a : Word)
  | comExt (a : Word)
  | lsrExt (a : Word)
  | rorExt (a : Word)
  | asrExt (a : Word)
  | lslExt (a : Word)
  | rolExt (a : Word)
  | decExt (a : Word)
  | incExt (a : Word)
  | tstExt (a : Word)
  | jmpExt (a : Word)
  | clrExt (a : Word)
  | subaImm (v : Byte)
  | cmpaImm (v : Byte)
  | sbcaImm (v : Byte)
  | subdImm (v : Word)
  | andaImm (v : Byte)
  | bitaImm (v : Byte)
  | ldaImm (v : Byte)
  | eoraImm (v : Byte)
  | adcaImm (v : Byte)
  | oraImm (v : Byte)
  | addaImm (v : Byte)
  | cmpxImm (v : Word)
  | bsr (off : Byte)
  | ldxImm (v : Word)
  | subaDir (lo : Byte)
  | cmpaDir (lo : Byte)
  | sbcaDir (lo : Byte)
  | subdDir (lo : Byte)
  | andaDir (lo : Byte)
  | bitaDir (lo : Byte)
  | ldaDir (lo : Byte)
  | staDir (lo : Byte)
  | eoraDir (lo : Byte)
  | adcaDir (lo : Byte)
  | oraDir (lo : Byte)
  | addaDir (lo : Byte)
  | cmpxDir (lo : Byte)
  | jsrDir (lo : Byte)
  | ldxDir (lo : Byte)
  | stxDir (lo : Byte)
  | subaIdx (ix : Indexed)
  | cmpaIdx (ix : Indexed)
  | sbcaIdx (ix : Indexed)
  | subdIdx (ix : Indexed)
  | andaIdx (ix : Indexed)
  | bitaIdx (ix : Indexed)
  | ldaIdx (ix : Indexed)
  | staIdx (ix : Indexed)
  | eoraIdx (ix : Indexed)
  | adcaIdx (ix : Indexed)
  | oraIdx (ix : Indexed)
  | addaIdx (ix : Indexed)
  | cmpxIdx (ix : Indexed)
  | jsrIdx (ix : Indexed)
  | ldxIdx (ix : Indexed)
  | stxIdx (ix : Indexed)
  | subaExt (a : Word)
  | cmpaExt (a : Word)
  | sbcaExt (a : Word)
  | subdExt (a : Word)
  | andaExt (a : Word)
  | bitaExt (a : Word)
  | ldaExt (a : Word)
  | staExt (a : Word)
  | eoraExt (a : Word)
  | adcaExt (a : Word)
  | oraExt (a : Word)
  | addaExt (a : Word)
  | cmpxExt (a : Word)
  | jsrExt (a : Word)
  | ldxExt (a : Word)
  | stxExt (a : Word)
  | subbImm (v : Byte)
  | cmpbImm (v : Byte)
  | sbcbImm (v : Byte)
  | adddImm (v : Word)
  | andbImm (v : Byte)
  | bitbImm (v : Byte)
  | ldbImm (v : Byte)
  | eorbImm (v : Byte)
  | adcbImm (v : Byte)
  | orbImm (v : Byte)
  | addbImm (v : Byte)
  | lddImm (v : Word)
  | lduImm (v : Word)
  | subbDir (lo : Byte)
  | cmpbDir (lo : Byte)
  | sbcbDir (lo : Byte)
  | adddDir (lo : Byte)
  | andbDir (lo : Byte)
  | bitbDir (lo : Byte)
  | ldbDir (lo : Byte)
  | stbDir (lo : Byte)
  | eorbDir (lo : Byte)
  | adcbDir (lo : Byte)
  | orbDir (lo : Byte)
  | addbDir (lo : Byte)
  | lddDir (lo : Byte)
  | stdDir (lo : Byte)
  | lduDir (lo : Byte)
  | stuDir (lo : Byte)
  | subbIdx (ix : Indexed)
  | cmpbIdx (ix : Indexed)
  | sbcbIdx (ix : Indexed)
  | adddIdx (ix : Indexed)
  | andbIdx (ix : Indexed)
  | bitbIdx (ix : Indexed)
  | ldbIdx (ix : Indexed)
  | stbIdx (ix : Indexed)
  | eorbIdx (ix : Indexed)
  | adcbIdx (ix : Indexed)
  | orbIdx (ix : Indexed)
  | addbIdx (ix : Indexed)
  | lddIdx (ix : Indexed)
  | stdIdx (ix : Indexed)
  | lduIdx (ix : Indexed)
  | stuIdx (ix : Indexed)
  | subbExt (a : Word)
  | cmpbExt (a : Word)
  | sbcbExt (a : Word)
  | adddExt (a : Word)
  | andbExt (a : Word)
  | bitbExt (a : Word)
  | ldbExt (a : Word)
  | stbExt (a : Word)
  | eorbExt (a : Word)
  | adcbExt (a : Word)
  | orbExt (a : Word)
  | addbExt (a : Word)
  | lddExt (a : Word)
  | stdExt (a : Word)
  | lduExt (a : Word)
  | stuExt (a : Word)
  | lbrn (off : Word)
  | lbhi (off : Word)
  | lbls (off : Word)
  | lbhs (off : Word)
  | lblo (off : Word)
  | lbne (off : Word)
  | lbeq (off : Word)
  | lbvc (off : Word)
  | lbvs (off : Word)
  | lbpl (off : Word)
  | lbmi (off : Word)
  | lbge (off : Word)
  | lblt (off : Word)
  | lbgt (off : Word)
  | lble (off : Word)
  | cmpdImm (v : Word)
  | cmpyImm (v : Word)
  | ldyImm (v : Word)
  | cmpdDir (lo : Byte)
  | cmpyDir (lo : Byte)
  | ldyDir (lo : Byte)
  | styDir (lo : Byte)
  | cmpdIdx (ix : Indexed)
  | cmpyIdx (ix : Indexed)
  | ldyIdx (ix : Indexed)
  | styIdx (ix : Indexed)
  | cmpdExt (a : Word)
  | cmpyExt (a : Word)
  | ldyExt (a : Word)
  | styExt (a : Word)
  | ldsImm (v : Word)
  | ldsDir (lo : Byte)
  | stsDir (lo : Byte)
  | ldsIdx (ix : Indexed)
  | stsIdx (ix : Indexed)
  | ldsExt (a : Word)
  | stsExt (a : Word)
  | cmpuImm (v : Word)
  | cmpsImm (v : Word)
  | cmpuDir (lo : Byte)
  | cmpsDir (lo : Byte)
  | cmpuIdx (ix : Indexed)
  | cmpsIdx (ix : Indexed)
  | cmpuExt (a : Word)
  | cmpsExt (a : Word)
  | nop
  | sync
  | daa
  | sex
  | rts
  | abx
  | rti
  | mul
  | swi
  | nega
  | coma
  | lsra
  | rora
  | asra
  | lsla
  | rola
  | deca
  | inca
  | tsta
  | clra
  | negb
  | comb
  | lsrb
  | rorb
  | asrb
  | lslb
  | rolb
  | decb
  | incb
  | tstb
  | clrb
  | swi2
  | swi3
deriving DecidableEq, Repr, Inhabited

end Sys2Proof
end

