-- ==== Sys2Proof/WellFormed.lean ====
section
/-! DEFINITION. The well-formed instructions: exactly those that an encoding can name (spec/30_encoding.md R131, R135,
R141). -/

namespace Sys2Proof

/-- The indirect bit a row of R131 allows: none for the 5-bit offset and the steps by one, always for `[n]`. -/
def Indexed.wf (ix : Indexed) : Bool :=
  match ix.form with
  | .off5 _ _ => !ix.indirect
  | .inc1 _ => !ix.indirect
  | .dec1 _ => !ix.indirect
  | .ext _ _ => ix.indirect
  | .inc2 _ => true
  | .dec2 _ => true
  | .zero _ => true
  | .accB _ => true
  | .accA _ => true
  | .off8 _ _ => true
  | .off16 _ _ => true
  | .accD _ => true
  | .pcr8 _ _ => true
  | .pcr16 _ _ => true

/-- A register pair of like sizes (R141). -/
def pairWf (src dst : Reg) : Bool := src.is16 == dst.is16

/-- The well-formed instructions. -/
def Instr.wf (i : Instr) : Bool :=
  match i with
  | .negDir _ => true
  | .comDir _ => true
  | .lsrDir _ => true
  | .rorDir _ => true
  | .asrDir _ => true
  | .lslDir _ => true
  | .rolDir _ => true
  | .decDir _ => true
  | .incDir _ => true
  | .tstDir _ => true
  | .jmpDir _ => true
  | .clrDir _ => true
  | .nop => true
  | .sync => true
  | .lbra _ => true
  | .lbsr _ => true
  | .daa => true
  | .orcc _ => true
  | .andcc _ => true
  | .sex => true
  | .exg src dst => pairWf src dst
  | .tfr src dst => pairWf src dst
  | .bra _ => true
  | .brn _ => true
  | .bhi _ => true
  | .bls _ => true
  | .bhs _ => true
  | .blo _ => true
  | .bne _ => true
  | .beq _ => true
  | .bvc _ => true
  | .bvs _ => true
  | .bpl _ => true
  | .bmi _ => true
  | .bge _ => true
  | .blt _ => true
  | .bgt _ => true
  | .ble _ => true
  | .leax ix => ix.wf
  | .leay ix => ix.wf
  | .leas ix => ix.wf
  | .leau ix => ix.wf
  | .pshs _ => true
  | .puls _ => true
  | .pshu _ => true
  | .pulu _ => true
  | .rts => true
  | .abx => true
  | .rti => true
  | .cwai _ => true
  | .mul => true
  | .swi => true
  | .nega => true
  | .coma => true
  | .lsra => true
  | .rora => true
  | .asra => true
  | .lsla => true
  | .rola => true
  | .deca => true
  | .inca => true
  | .tsta => true
  | .clra => true
  | .negb => true
  | .comb => true
  | .lsrb => true
  | .rorb => true
  | .asrb => true
  | .lslb => true
  | .rolb => true
  | .decb => true
  | .incb => true
  | .tstb => true
  | .clrb => true
  | .negIdx ix => ix.wf
  | .comIdx ix => ix.wf
  | .lsrIdx ix => ix.wf
  | .rorIdx ix => ix.wf
  | .asrIdx ix => ix.wf
  | .lslIdx ix => ix.wf
  | .rolIdx ix => ix.wf
  | .decIdx ix => ix.wf
  | .incIdx ix => ix.wf
  | .tstIdx ix => ix.wf
  | .jmpIdx ix => ix.wf
  | .clrIdx ix => ix.wf
  | .negExt _ => true
  | .comExt _ => true
  | .lsrExt _ => true
  | .rorExt _ => true
  | .asrExt _ => true
  | .lslExt _ => true
  | .rolExt _ => true
  | .decExt _ => true
  | .incExt _ => true
  | .tstExt _ => true
  | .jmpExt _ => true
  | .clrExt _ => true
  | .subaImm _ => true
  | .cmpaImm _ => true
  | .sbcaImm _ => true
  | .subdImm _ => true
  | .andaImm _ => true
  | .bitaImm _ => true
  | .ldaImm _ => true
  | .eoraImm _ => true
  | .adcaImm _ => true
  | .oraImm _ => true
  | .addaImm _ => true
  | .cmpxImm _ => true
  | .bsr _ => true
  | .ldxImm _ => true
  | .subaDir _ => true
  | .cmpaDir _ => true
  | .sbcaDir _ => true
  | .subdDir _ => true
  | .andaDir _ => true
  | .bitaDir _ => true
  | .ldaDir _ => true
  | .staDir _ => true
  | .eoraDir _ => true
  | .adcaDir _ => true
  | .oraDir _ => true
  | .addaDir _ => true
  | .cmpxDir _ => true
  | .jsrDir _ => true
  | .ldxDir _ => true
  | .stxDir _ => true
  | .subaIdx ix => ix.wf
  | .cmpaIdx ix => ix.wf
  | .sbcaIdx ix => ix.wf
  | .subdIdx ix => ix.wf
  | .andaIdx ix => ix.wf
  | .bitaIdx ix => ix.wf
  | .ldaIdx ix => ix.wf
  | .staIdx ix => ix.wf
  | .eoraIdx ix => ix.wf
  | .adcaIdx ix => ix.wf
  | .oraIdx ix => ix.wf
  | .addaIdx ix => ix.wf
  | .cmpxIdx ix => ix.wf
  | .jsrIdx ix => ix.wf
  | .ldxIdx ix => ix.wf
  | .stxIdx ix => ix.wf
  | .subaExt _ => true
  | .cmpaExt _ => true
  | .sbcaExt _ => true
  | .subdExt _ => true
  | .andaExt _ => true
  | .bitaExt _ => true
  | .ldaExt _ => true
  | .staExt _ => true
  | .eoraExt _ => true
  | .adcaExt _ => true
  | .oraExt _ => true
  | .addaExt _ => true
  | .cmpxExt _ => true
  | .jsrExt _ => true
  | .ldxExt _ => true
  | .stxExt _ => true
  | .subbImm _ => true
  | .cmpbImm _ => true
  | .sbcbImm _ => true
  | .adddImm _ => true
  | .andbImm _ => true
  | .bitbImm _ => true
  | .ldbImm _ => true
  | .eorbImm _ => true
  | .adcbImm _ => true
  | .orbImm _ => true
  | .addbImm _ => true
  | .lddImm _ => true
  | .lduImm _ => true
  | .subbDir _ => true
  | .cmpbDir _ => true
  | .sbcbDir _ => true
  | .adddDir _ => true
  | .andbDir _ => true
  | .bitbDir _ => true
  | .ldbDir _ => true
  | .stbDir _ => true
  | .eorbDir _ => true
  | .adcbDir _ => true
  | .orbDir _ => true
  | .addbDir _ => true
  | .lddDir _ => true
  | .stdDir _ => true
  | .lduDir _ => true
  | .stuDir _ => true
  | .subbIdx ix => ix.wf
  | .cmpbIdx ix => ix.wf
  | .sbcbIdx ix => ix.wf
  | .adddIdx ix => ix.wf
  | .andbIdx ix => ix.wf
  | .bitbIdx ix => ix.wf
  | .ldbIdx ix => ix.wf
  | .stbIdx ix => ix.wf
  | .eorbIdx ix => ix.wf
  | .adcbIdx ix => ix.wf
  | .orbIdx ix => ix.wf
  | .addbIdx ix => ix.wf
  | .lddIdx ix => ix.wf
  | .stdIdx ix => ix.wf
  | .lduIdx ix => ix.wf
  | .stuIdx ix => ix.wf
  | .subbExt _ => true
  | .cmpbExt _ => true
  | .sbcbExt _ => true
  | .adddExt _ => true
  | .andbExt _ => true
  | .bitbExt _ => true
  | .ldbExt _ => true
  | .stbExt _ => true
  | .eorbExt _ => true
  | .adcbExt _ => true
  | .orbExt _ => true
  | .addbExt _ => true
  | .lddExt _ => true
  | .stdExt _ => true
  | .lduExt _ => true
  | .stuExt _ => true
  | .lbrn _ => true
  | .lbhi _ => true
  | .lbls _ => true
  | .lbhs _ => true
  | .lblo _ => true
  | .lbne _ => true
  | .lbeq _ => true
  | .lbvc _ => true
  | .lbvs _ => true
  | .lbpl _ => true
  | .lbmi _ => true
  | .lbge _ => true
  | .lblt _ => true
  | .lbgt _ => true
  | .lble _ => true
  | .swi2 => true
  | .cmpdImm _ => true
  | .cmpyImm _ => true
  | .ldyImm _ => true
  | .cmpdDir _ => true
  | .cmpyDir _ => true
  | .ldyDir _ => true
  | .styDir _ => true
  | .cmpdIdx ix => ix.wf
  | .cmpyIdx ix => ix.wf
  | .ldyIdx ix => ix.wf
  | .styIdx ix => ix.wf
  | .cmpdExt _ => true
  | .cmpyExt _ => true
  | .ldyExt _ => true
  | .styExt _ => true
  | .ldsImm _ => true
  | .ldsDir _ => true
  | .stsDir _ => true
  | .ldsIdx ix => ix.wf
  | .stsIdx ix => ix.wf
  | .ldsExt _ => true
  | .stsExt _ => true
  | .swi3 => true
  | .cmpuImm _ => true
  | .cmpsImm _ => true
  | .cmpuDir _ => true
  | .cmpsDir _ => true
  | .cmpuIdx ix => ix.wf
  | .cmpsIdx ix => ix.wf
  | .cmpuExt _ => true
  | .cmpsExt _ => true

end Sys2Proof
end

