-- ==== Sys2Proof/Decode.lean ====
section
/-! DEFINITION. Decoding bytes to an instruction, rejecting by name, and the encoder (spec/30_encoding.md R120 to R151). -/

namespace Sys2Proof

/-- Why bytes are no instruction. -/
inductive DecodeError where
  /-- More bytes are needed (R120). -/
  | truncated
  /-- The opcode is absent from its page (R121, R149). -/
  | illegalOpcode (page : Nat) (op : Byte)
  /-- An illegal indexed post-byte (R135). -/
  | illegalIndexed (pb : Byte)
  /-- An illegal TFR or EXG post-byte (R141). -/
  | illegalRegisterPair (pb : Byte)
deriving DecidableEq, Repr

/-- What follows an opcode (R122): nothing; one byte (imm8, dir, rel8, list); two bytes, the high one first (imm16, ext,
rel16); an indexed operand; a register pair. -/
inductive Shape where
  | inh (i : Instr)
  | byte (f : Byte → Instr)
  | word (f : Word → Instr)
  | idx (f : Indexed → Instr)
  | pair (f : Reg → Reg → Instr)

/-! ### The opcode map -/

/-- Row 0x of R146. -/
def page1Row0 : List (Option Shape) :=
  [some (.byte .negDir), none, none, some (.byte .comDir),
   some (.byte .lsrDir), none, some (.byte .rorDir), some (.byte .asrDir),
   some (.byte .lslDir), some (.byte .rolDir), some (.byte .decDir), none,
   some (.byte .incDir), some (.byte .tstDir), some (.byte .jmpDir), some (.byte .clrDir)]

/-- Row 1x of R146. -/
def page1Row1 : List (Option Shape) :=
  [none, none, some (.inh .nop), some (.inh .sync),
   none, none, some (.word .lbra), some (.word .lbsr),
   none, some (.inh .daa), some (.byte .orcc), none,
   some (.byte .andcc), some (.inh .sex), some (.pair .exg), some (.pair .tfr)]

/-- Row 2x of R146. -/
def page1Row2 : List (Option Shape) :=
  [some (.byte .bra), some (.byte .brn), some (.byte .bhi), some (.byte .bls),
   some (.byte .bhs), some (.byte .blo), some (.byte .bne), some (.byte .beq),
   some (.byte .bvc), some (.byte .bvs), some (.byte .bpl), some (.byte .bmi),
   some (.byte .bge), some (.byte .blt), some (.byte .bgt), some (.byte .ble)]

/-- Row 3x of R146. -/
def page1Row3 : List (Option Shape) :=
  [some (.idx .leax), some (.idx .leay), some (.idx .leas), some (.idx .leau),
   some (.byte .pshs), some (.byte .puls), some (.byte .pshu), some (.byte .pulu),
   none, some (.inh .rts), some (.inh .abx), some (.inh .rti),
   some (.byte .cwai), some (.inh .mul), none, some (.inh .swi)]

/-- Row 4x of R146. -/
def page1Row4 : List (Option Shape) :=
  [some (.inh .nega), none, none, some (.inh .coma),
   some (.inh .lsra), none, some (.inh .rora), some (.inh .asra),
   some (.inh .lsla), some (.inh .rola), some (.inh .deca), none,
   some (.inh .inca), some (.inh .tsta), none, some (.inh .clra)]

/-- Row 5x of R146. -/
def page1Row5 : List (Option Shape) :=
  [some (.inh .negb), none, none, some (.inh .comb),
   some (.inh .lsrb), none, some (.inh .rorb), some (.inh .asrb),
   some (.inh .lslb), some (.inh .rolb), some (.inh .decb), none,
   some (.inh .incb), some (.inh .tstb), none, some (.inh .clrb)]

/-- Row 6x of R146. -/
def page1Row6 : List (Option Shape) :=
  [some (.idx .negIdx), none, none, some (.idx .comIdx),
   some (.idx .lsrIdx), none, some (.idx .rorIdx), some (.idx .asrIdx),
   some (.idx .lslIdx), some (.idx .rolIdx), some (.idx .decIdx), none,
   some (.idx .incIdx), some (.idx .tstIdx), some (.idx .jmpIdx), some (.idx .clrIdx)]

/-- Row 7x of R146. -/
def page1Row7 : List (Option Shape) :=
  [some (.word .negExt), none, none, some (.word .comExt),
   some (.word .lsrExt), none, some (.word .rorExt), some (.word .asrExt),
   some (.word .lslExt), some (.word .rolExt), some (.word .decExt), none,
   some (.word .incExt), some (.word .tstExt), some (.word .jmpExt), some (.word .clrExt)]

/-- Row 8x of R146. -/
def page1Row8 : List (Option Shape) :=
  [some (.byte .subaImm), some (.byte .cmpaImm), some (.byte .sbcaImm), some (.word .subdImm),
   some (.byte .andaImm), some (.byte .bitaImm), some (.byte .ldaImm), none,
   some (.byte .eoraImm), some (.byte .adcaImm), some (.byte .oraImm), some (.byte .addaImm),
   some (.word .cmpxImm), some (.byte .bsr), some (.word .ldxImm), none]

/-- Row 9x of R146. -/
def page1Row9 : List (Option Shape) :=
  [some (.byte .subaDir), some (.byte .cmpaDir), some (.byte .sbcaDir), some (.byte .subdDir),
   some (.byte .andaDir), some (.byte .bitaDir), some (.byte .ldaDir), some (.byte .staDir),
   some (.byte .eoraDir), some (.byte .adcaDir), some (.byte .oraDir), some (.byte .addaDir),
   some (.byte .cmpxDir), some (.byte .jsrDir), some (.byte .ldxDir), some (.byte .stxDir)]

/-- Row Ax of R146. -/
def page1RowA : List (Option Shape) :=
  [some (.idx .subaIdx), some (.idx .cmpaIdx), some (.idx .sbcaIdx), some (.idx .subdIdx),
   some (.idx .andaIdx), some (.idx .bitaIdx), some (.idx .ldaIdx), some (.idx .staIdx),
   some (.idx .eoraIdx), some (.idx .adcaIdx), some (.idx .oraIdx), some (.idx .addaIdx),
   some (.idx .cmpxIdx), some (.idx .jsrIdx), some (.idx .ldxIdx), some (.idx .stxIdx)]

/-- Row Bx of R146. -/
def page1RowB : List (Option Shape) :=
  [some (.word .subaExt), some (.word .cmpaExt), some (.word .sbcaExt), some (.word .subdExt),
   some (.word .andaExt), some (.word .bitaExt), some (.word .ldaExt), some (.word .staExt),
   some (.word .eoraExt), some (.word .adcaExt), some (.word .oraExt), some (.word .addaExt),
   some (.word .cmpxExt), some (.word .jsrExt), some (.word .ldxExt), some (.word .stxExt)]

/-- Row Cx of R146. -/
def page1RowC : List (Option Shape) :=
  [some (.byte .subbImm), some (.byte .cmpbImm), some (.byte .sbcbImm), some (.word .adddImm),
   some (.byte .andbImm), some (.byte .bitbImm), some (.byte .ldbImm), none,
   some (.byte .eorbImm), some (.byte .adcbImm), some (.byte .orbImm), some (.byte .addbImm),
   some (.word .lddImm), none, some (.word .lduImm), none]

/-- Row Dx of R146. -/
def page1RowD : List (Option Shape) :=
  [some (.byte .subbDir), some (.byte .cmpbDir), some (.byte .sbcbDir), some (.byte .adddDir),
   some (.byte .andbDir), some (.byte .bitbDir), some (.byte .ldbDir), some (.byte .stbDir),
   some (.byte .eorbDir), some (.byte .adcbDir), some (.byte .orbDir), some (.byte .addbDir),
   some (.byte .lddDir), some (.byte .stdDir), some (.byte .lduDir), some (.byte .stuDir)]

/-- Row Ex of R146. -/
def page1RowE : List (Option Shape) :=
  [some (.idx .subbIdx), some (.idx .cmpbIdx), some (.idx .sbcbIdx), some (.idx .adddIdx),
   some (.idx .andbIdx), some (.idx .bitbIdx), some (.idx .ldbIdx), some (.idx .stbIdx),
   some (.idx .eorbIdx), some (.idx .adcbIdx), some (.idx .orbIdx), some (.idx .addbIdx),
   some (.idx .lddIdx), some (.idx .stdIdx), some (.idx .lduIdx), some (.idx .stuIdx)]

/-- Row Fx of R146. -/
def page1RowF : List (Option Shape) :=
  [some (.word .subbExt), some (.word .cmpbExt), some (.word .sbcbExt), some (.word .adddExt),
   some (.word .andbExt), some (.word .bitbExt), some (.word .ldbExt), some (.word .stbExt),
   some (.word .eorbExt), some (.word .adcbExt), some (.word .orbExt), some (.word .addbExt),
   some (.word .lddExt), some (.word .stdExt), some (.word .lduExt), some (.word .stuExt)]

/-- Page 1 (R146), the opcodes 0x00 to 0xFF in order. 0x10 and 0x11 are the page prefixes. -/
def page1 : List (Option Shape) :=
  page1Row0 ++ page1Row1 ++ page1Row2 ++ page1Row3 ++ page1Row4 ++ page1Row5 ++ page1Row6 ++ page1Row7 ++
    page1Row8 ++ page1Row9 ++ page1RowA ++ page1RowB ++ page1RowC ++ page1RowD ++ page1RowE ++ page1RowF

/-- Page 2 (R147): the legal bytes after the prefix 0x10. -/
def page2 : List (Byte × Shape) :=
  [(0x21#8, .word .lbrn), (0x22#8, .word .lbhi), (0x23#8, .word .lbls), (0x24#8, .word .lbhs),
   (0x25#8, .word .lblo), (0x26#8, .word .lbne), (0x27#8, .word .lbeq), (0x28#8, .word .lbvc),
   (0x29#8, .word .lbvs), (0x2A#8, .word .lbpl), (0x2B#8, .word .lbmi), (0x2C#8, .word .lbge),
   (0x2D#8, .word .lblt), (0x2E#8, .word .lbgt), (0x2F#8, .word .lble), (0x3F#8, .inh .swi2),
   (0x83#8, .word .cmpdImm), (0x8C#8, .word .cmpyImm), (0x8E#8, .word .ldyImm), (0x93#8, .byte .cmpdDir),
   (0x9C#8, .byte .cmpyDir), (0x9E#8, .byte .ldyDir), (0x9F#8, .byte .styDir), (0xA3#8, .idx .cmpdIdx),
   (0xAC#8, .idx .cmpyIdx), (0xAE#8, .idx .ldyIdx), (0xAF#8, .idx .styIdx), (0xB3#8, .word .cmpdExt),
   (0xBC#8, .word .cmpyExt), (0xBE#8, .word .ldyExt), (0xBF#8, .word .styExt), (0xCE#8, .word .ldsImm),
   (0xDE#8, .byte .ldsDir), (0xDF#8, .byte .stsDir), (0xEE#8, .idx .ldsIdx), (0xEF#8, .idx .stsIdx),
   (0xFE#8, .word .ldsExt), (0xFF#8, .word .stsExt)]

/-- Page 3 (R148): the legal bytes after the prefix 0x11. -/
def page3 : List (Byte × Shape) :=
  [(0x3F#8, .inh .swi3), (0x83#8, .word .cmpuImm), (0x8C#8, .word .cmpsImm), (0x93#8, .byte .cmpuDir),
   (0x9C#8, .byte .cmpsDir), (0xA3#8, .idx .cmpuIdx), (0xAC#8, .idx .cmpsIdx), (0xB3#8, .word .cmpuExt),
   (0xBC#8, .word .cmpsExt)]

/-- Look an opcode up in page 2 or 3. -/
def lookup (op : Byte) (rows : List (Byte × Shape)) : Option Shape :=
  match rows with
  | [] => none
  | r :: rest => if r.1 = op then some r.2 else lookup op rest

/-! ### Operand bytes -/

/-- The register that bits 6:5 of a post-byte select (R130). -/
def indexReg (rr : BitVec 2) : IndexReg :=
  if rr = 0#2 then .x else if rr = 1#2 then .y else if rr = 2#2 then .u else .s

/-- A register code of R140. -/
def regOfCode (code : BitVec 4) : Option Reg :=
  match code.toNat with
  | 0x0 => some .d
  | 0x1 => some .x
  | 0x2 => some .y
  | 0x3 => some .u
  | 0x4 => some .s
  | 0x5 => some .pc
  | 0x8 => some .a
  | 0x9 => some .b
  | 0xA => some .cc
  | 0xB => some .dp
  | _ => none

/-- The result of decoding: the value and the bytes that are left. -/
abbrev Decoded (α : Type) := Except DecodeError (α × List Byte)

/-- Decode one byte. -/
def decodeByte (bs : List Byte) : Decoded Byte :=
  match bs with
  | b :: rest => .ok (b, rest)
  | [] => .error .truncated

/-- Decode two bytes, the high one first (R123). -/
def decodeWord (bs : List Byte) : Decoded Word :=
  match bs with
  | h :: l :: rest => .ok (joinBytes h l, rest)
  | _ => .error .truncated

/-- Apply a constructor to what has been decoded. -/
def Decoded.map {α β : Type} (f : α → β) (d : Decoded α) : Decoded β :=
  match d with
  | .ok (v, rest) => .ok (f v, rest)
  | .error e => .error e

/-- The row of R131 for a post-byte with bit 7 set. -/
def decodeIndexedForm (pb : Byte) (rest : List Byte) : Decoded Indexed :=
  let r := indexReg (pb.extractLsb' 5 2)
  let i := bit pb 4
  match (pb.extractLsb' 0 4).toNat with
  | 0x0 => if i then .error (.illegalIndexed pb) else .ok (⟨.inc1 r, false⟩, rest)
  | 0x1 => .ok (⟨.inc2 r, i⟩, rest)
  | 0x2 => if i then .error (.illegalIndexed pb) else .ok (⟨.dec1 r, false⟩, rest)
  | 0x3 => .ok (⟨.dec2 r, i⟩, rest)
  | 0x4 => .ok (⟨.zero r, i⟩, rest)
  | 0x5 => .ok (⟨.accB r, i⟩, rest)
  | 0x6 => .ok (⟨.accA r, i⟩, rest)
  | 0x8 => Decoded.map (fun n => ⟨.off8 r n, i⟩) (decodeByte rest)
  | 0x9 => Decoded.map (fun n => ⟨.off16 r n, i⟩) (decodeWord rest)
  | 0xB => .ok (⟨.accD r, i⟩, rest)
  | 0xC => Decoded.map (fun n => ⟨.pcr8 r n, i⟩) (decodeByte rest)
  | 0xD => Decoded.map (fun n => ⟨.pcr16 r n, i⟩) (decodeWord rest)
  | 0xF => if i then Decoded.map (fun n => ⟨.ext r n, true⟩) (decodeWord rest) else .error (.illegalIndexed pb)
  | _ => .error (.illegalIndexed pb)

/-- Decode an indexed operand: the post-byte, then its extra bytes (R130, R131, R135). -/
def decodeIndexed (bs : List Byte) : Decoded Indexed :=
  match bs with
  | [] => .error .truncated
  | pb :: rest =>
    if bit pb 7 then decodeIndexedForm pb rest
    else .ok (⟨.off5 (indexReg (pb.extractLsb' 5 2)) (pb.extractLsb' 0 5), false⟩, rest)

/-- Decode a TFR or EXG post-byte (R140, R141). -/
def decodePair (bs : List Byte) : Decoded (Reg × Reg) :=
  match bs with
  | [] => .error .truncated
  | pb :: rest =>
    match regOfCode (pb.extractLsb' 4 4), regOfCode (pb.extractLsb' 0 4) with
    | some r1, some r2 =>
      if r1.is16 = r2.is16 then .ok ((r1, r2), rest) else .error (.illegalRegisterPair pb)
    | _, _ => .error (.illegalRegisterPair pb)

/-- Decode what follows an opcode (R122). -/
def Shape.decode (sh : Shape) (bs : List Byte) : Decoded Instr :=
  match sh with
  | .inh i => .ok (i, bs)
  | .byte f => Decoded.map f (decodeByte bs)
  | .word f => Decoded.map f (decodeWord bs)
  | .idx f => Decoded.map f (decodeIndexed bs)
  | .pair f => Decoded.map (fun p => f p.1 p.2) (decodePair bs)

/-- Decode after an opcode that was looked up. -/
def decodeAfter (page : Nat) (op : Byte) (sh : Option Shape) (bs : List Byte) : Decoded Instr :=
  match sh with
  | some sh => sh.decode bs
  | none => .error (.illegalOpcode page op)

/-- Decode after a page prefix (R121). -/
def decodePage (page : Nat) (rows : List (Byte × Shape)) (bs : List Byte) : Decoded Instr :=
  match bs with
  | [] => .error .truncated
  | op :: rest => decodeAfter page op (lookup op rows) rest

/-- Decode the instruction at the head of `bs` (R121): the instruction and the bytes after it. It answers `truncated`
exactly while every byte seen may still begin an instruction, so that a fetch knows whether to go on (R120, R135). -/
def decode (bs : List Byte) : Decoded Instr :=
  match bs with
  | [] => .error .truncated
  | op :: rest =>
    if op = 0x10#8 then decodePage 2 page2 rest
    else if op = 0x11#8 then decodePage 3 page3 rest
    else decodeAfter 1 op (page1[op.toNat]?.join) rest

/-! ### The encoder -/

/-- The `rr` bits of a register (R130). -/
def IndexReg.code (r : IndexReg) : BitVec 2 :=
  match r with
  | .x => 0#2
  | .y => 1#2
  | .u => 2#2
  | .s => 3#2

/-- The code of a register (R140). -/
def Reg.code (r : Reg) : BitVec 4 :=
  match r with
  | .d => 0x0#4
  | .x => 0x1#4
  | .y => 0x2#4
  | .u => 0x3#4
  | .s => 0x4#4
  | .pc => 0x5#4
  | .a => 0x8#4
  | .b => 0x9#4
  | .cc => 0xA#4
  | .dp => 0xB#4

/-- The post-byte 1 rr i tttt (R130). -/
def postByte (r : IndexReg) (i : Bool) (t : BitVec 4) : Byte := 1#1 ++ r.code ++ BitVec.ofBool i ++ t

/-- A word as two bytes, the high one first. -/
def wordBytes (w : Word) : List Byte := [hiByte w, loByte w]

/-- The post-byte and extra bytes of an indexed operand (R131). -/
def encodeIndexed (ix : Indexed) : List Byte :=
  let i := ix.indirect
  match ix.form with
  | .off5 r n => [0#1 ++ r.code ++ n]
  | .inc1 r => [postByte r i 0x0]
  | .inc2 r => [postByte r i 0x1]
  | .dec1 r => [postByte r i 0x2]
  | .dec2 r => [postByte r i 0x3]
  | .zero r => [postByte r i 0x4]
  | .accB r => [postByte r i 0x5]
  | .accA r => [postByte r i 0x6]
  | .off8 r n => [postByte r i 0x8, n]
  | .off16 r n => postByte r i 0x9 :: wordBytes n
  | .accD r => [postByte r i 0xB]
  | .pcr8 r n => [postByte r i 0xC, n]
  | .pcr16 r n => postByte r i 0xD :: wordBytes n
  | .ext r n => postByte r i 0xF :: wordBytes n

/-- The bytes of a well-formed instruction, in the order they stand in memory (R120, R146 to R148). -/
def encode (i : Instr) : List Byte :=
  match i with
  | .negDir lo => [0x00, lo]
  | .comDir lo => [0x03, lo]
  | .lsrDir lo => [0x04, lo]
  | .rorDir lo => [0x06, lo]
  | .asrDir lo => [0x07, lo]
  | .lslDir lo => [0x08, lo]
  | .rolDir lo => [0x09, lo]
  | .decDir lo => [0x0A, lo]
  | .incDir lo => [0x0C, lo]
  | .tstDir lo => [0x0D, lo]
  | .jmpDir lo => [0x0E, lo]
  | .clrDir lo => [0x0F, lo]
  | .nop => [0x12]
  | .sync => [0x13]
  | .lbra off => 0x16 :: wordBytes off
  | .lbsr off => 0x17 :: wordBytes off
  | .daa => [0x19]
  | .orcc v => [0x1A, v]
  | .andcc v => [0x1C, v]
  | .sex => [0x1D]
  | .exg src dst => [0x1E, src.code ++ dst.code]
  | .tfr src dst => [0x1F, src.code ++ dst.code]
  | .bra off => [0x20, off]
  | .brn off => [0x21, off]
  | .bhi off => [0x22, off]
  | .bls off => [0x23, off]
  | .bhs off => [0x24, off]
  | .blo off => [0x25, off]
  | .bne off => [0x26, off]
  | .beq off => [0x27, off]
  | .bvc off => [0x28, off]
  | .bvs off => [0x29, off]
  | .bpl off => [0x2A, off]
  | .bmi off => [0x2B, off]
  | .bge off => [0x2C, off]
  | .blt off => [0x2D, off]
  | .bgt off => [0x2E, off]
  | .ble off => [0x2F, off]
  | .leax ix => 0x30 :: encodeIndexed ix
  | .leay ix => 0x31 :: encodeIndexed ix
  | .leas ix => 0x32 :: encodeIndexed ix
  | .leau ix => 0x33 :: encodeIndexed ix
  | .pshs pb => [0x34, pb]
  | .puls pb => [0x35, pb]
  | .pshu pb => [0x36, pb]
  | .pulu pb => [0x37, pb]
  | .rts => [0x39]
  | .abx => [0x3A]
  | .rti => [0x3B]
  | .cwai v => [0x3C, v]
  | .mul => [0x3D]
  | .swi => [0x3F]
  | .nega => [0x40]
  | .coma => [0x43]
  | .lsra => [0x44]
  | .rora => [0x46]
  | .asra => [0x47]
  | .lsla => [0x48]
  | .rola => [0x49]
  | .deca => [0x4A]
  | .inca => [0x4C]
  | .tsta => [0x4D]
  | .clra => [0x4F]
  | .negb => [0x50]
  | .comb => [0x53]
  | .lsrb => [0x54]
  | .rorb => [0x56]
  | .asrb => [0x57]
  | .lslb => [0x58]
  | .rolb => [0x59]
  | .decb => [0x5A]
  | .incb => [0x5C]
  | .tstb => [0x5D]
  | .clrb => [0x5F]
  | .negIdx ix => 0x60 :: encodeIndexed ix
  | .comIdx ix => 0x63 :: encodeIndexed ix
  | .lsrIdx ix => 0x64 :: encodeIndexed ix
  | .rorIdx ix => 0x66 :: encodeIndexed ix
  | .asrIdx ix => 0x67 :: encodeIndexed ix
  | .lslIdx ix => 0x68 :: encodeIndexed ix
  | .rolIdx ix => 0x69 :: encodeIndexed ix
  | .decIdx ix => 0x6A :: encodeIndexed ix
  | .incIdx ix => 0x6C :: encodeIndexed ix
  | .tstIdx ix => 0x6D :: encodeIndexed ix
  | .jmpIdx ix => 0x6E :: encodeIndexed ix
  | .clrIdx ix => 0x6F :: encodeIndexed ix
  | .negExt a => 0x70 :: wordBytes a
  | .comExt a => 0x73 :: wordBytes a
  | .lsrExt a => 0x74 :: wordBytes a
  | .rorExt a => 0x76 :: wordBytes a
  | .asrExt a => 0x77 :: wordBytes a
  | .lslExt a => 0x78 :: wordBytes a
  | .rolExt a => 0x79 :: wordBytes a
  | .decExt a => 0x7A :: wordBytes a
  | .incExt a => 0x7C :: wordBytes a
  | .tstExt a => 0x7D :: wordBytes a
  | .jmpExt a => 0x7E :: wordBytes a
  | .clrExt a => 0x7F :: wordBytes a
  | .subaImm v => [0x80, v]
  | .cmpaImm v => [0x81, v]
  | .sbcaImm v => [0x82, v]
  | .subdImm v => 0x83 :: wordBytes v
  | .andaImm v => [0x84, v]
  | .bitaImm v => [0x85, v]
  | .ldaImm v => [0x86, v]
  | .eoraImm v => [0x88, v]
  | .adcaImm v => [0x89, v]
  | .oraImm v => [0x8A, v]
  | .addaImm v => [0x8B, v]
  | .cmpxImm v => 0x8C :: wordBytes v
  | .bsr off => [0x8D, off]
  | .ldxImm v => 0x8E :: wordBytes v
  | .subaDir lo => [0x90, lo]
  | .cmpaDir lo => [0x91, lo]
  | .sbcaDir lo => [0x92, lo]
  | .subdDir lo => [0x93, lo]
  | .andaDir lo => [0x94, lo]
  | .bitaDir lo => [0x95, lo]
  | .ldaDir lo => [0x96, lo]
  | .staDir lo => [0x97, lo]
  | .eoraDir lo => [0x98, lo]
  | .adcaDir lo => [0x99, lo]
  | .oraDir lo => [0x9A, lo]
  | .addaDir lo => [0x9B, lo]
  | .cmpxDir lo => [0x9C, lo]
  | .jsrDir lo => [0x9D, lo]
  | .ldxDir lo => [0x9E, lo]
  | .stxDir lo => [0x9F, lo]
  | .subaIdx ix => 0xA0 :: encodeIndexed ix
  | .cmpaIdx ix => 0xA1 :: encodeIndexed ix
  | .sbcaIdx ix => 0xA2 :: encodeIndexed ix
  | .subdIdx ix => 0xA3 :: encodeIndexed ix
  | .andaIdx ix => 0xA4 :: encodeIndexed ix
  | .bitaIdx ix => 0xA5 :: encodeIndexed ix
  | .ldaIdx ix => 0xA6 :: encodeIndexed ix
  | .staIdx ix => 0xA7 :: encodeIndexed ix
  | .eoraIdx ix => 0xA8 :: encodeIndexed ix
  | .adcaIdx ix => 0xA9 :: encodeIndexed ix
  | .oraIdx ix => 0xAA :: encodeIndexed ix
  | .addaIdx ix => 0xAB :: encodeIndexed ix
  | .cmpxIdx ix => 0xAC :: encodeIndexed ix
  | .jsrIdx ix => 0xAD :: encodeIndexed ix
  | .ldxIdx ix => 0xAE :: encodeIndexed ix
  | .stxIdx ix => 0xAF :: encodeIndexed ix
  | .subaExt a => 0xB0 :: wordBytes a
  | .cmpaExt a => 0xB1 :: wordBytes a
  | .sbcaExt a => 0xB2 :: wordBytes a
  | .subdExt a => 0xB3 :: wordBytes a
  | .andaExt a => 0xB4 :: wordBytes a
  | .bitaExt a => 0xB5 :: wordBytes a
  | .ldaExt a => 0xB6 :: wordBytes a
  | .staExt a => 0xB7 :: wordBytes a
  | .eoraExt a => 0xB8 :: wordBytes a
  | .adcaExt a => 0xB9 :: wordBytes a
  | .oraExt a => 0xBA :: wordBytes a
  | .addaExt a => 0xBB :: wordBytes a
  | .cmpxExt a => 0xBC :: wordBytes a
  | .jsrExt a => 0xBD :: wordBytes a
  | .ldxExt a => 0xBE :: wordBytes a
  | .stxExt a => 0xBF :: wordBytes a
  | .subbImm v => [0xC0, v]
  | .cmpbImm v => [0xC1, v]
  | .sbcbImm v => [0xC2, v]
  | .adddImm v => 0xC3 :: wordBytes v
  | .andbImm v => [0xC4, v]
  | .bitbImm v => [0xC5, v]
  | .ldbImm v => [0xC6, v]
  | .eorbImm v => [0xC8, v]
  | .adcbImm v => [0xC9, v]
  | .orbImm v => [0xCA, v]
  | .addbImm v => [0xCB, v]
  | .lddImm v => 0xCC :: wordBytes v
  | .lduImm v => 0xCE :: wordBytes v
  | .subbDir lo => [0xD0, lo]
  | .cmpbDir lo => [0xD1, lo]
  | .sbcbDir lo => [0xD2, lo]
  | .adddDir lo => [0xD3, lo]
  | .andbDir lo => [0xD4, lo]
  | .bitbDir lo => [0xD5, lo]
  | .ldbDir lo => [0xD6, lo]
  | .stbDir lo => [0xD7, lo]
  | .eorbDir lo => [0xD8, lo]
  | .adcbDir lo => [0xD9, lo]
  | .orbDir lo => [0xDA, lo]
  | .addbDir lo => [0xDB, lo]
  | .lddDir lo => [0xDC, lo]
  | .stdDir lo => [0xDD, lo]
  | .lduDir lo => [0xDE, lo]
  | .stuDir lo => [0xDF, lo]
  | .subbIdx ix => 0xE0 :: encodeIndexed ix
  | .cmpbIdx ix => 0xE1 :: encodeIndexed ix
  | .sbcbIdx ix => 0xE2 :: encodeIndexed ix
  | .adddIdx ix => 0xE3 :: encodeIndexed ix
  | .andbIdx ix => 0xE4 :: encodeIndexed ix
  | .bitbIdx ix => 0xE5 :: encodeIndexed ix
  | .ldbIdx ix => 0xE6 :: encodeIndexed ix
  | .stbIdx ix => 0xE7 :: encodeIndexed ix
  | .eorbIdx ix => 0xE8 :: encodeIndexed ix
  | .adcbIdx ix => 0xE9 :: encodeIndexed ix
  | .orbIdx ix => 0xEA :: encodeIndexed ix
  | .addbIdx ix => 0xEB :: encodeIndexed ix
  | .lddIdx ix => 0xEC :: encodeIndexed ix
  | .stdIdx ix => 0xED :: encodeIndexed ix
  | .lduIdx ix => 0xEE :: encodeIndexed ix
  | .stuIdx ix => 0xEF :: encodeIndexed ix
  | .subbExt a => 0xF0 :: wordBytes a
  | .cmpbExt a => 0xF1 :: wordBytes a
  | .sbcbExt a => 0xF2 :: wordBytes a
  | .adddExt a => 0xF3 :: wordBytes a
  | .andbExt a => 0xF4 :: wordBytes a
  | .bitbExt a => 0xF5 :: wordBytes a
  | .ldbExt a => 0xF6 :: wordBytes a
  | .stbExt a => 0xF7 :: wordBytes a
  | .eorbExt a => 0xF8 :: wordBytes a
  | .adcbExt a => 0xF9 :: wordBytes a
  | .orbExt a => 0xFA :: wordBytes a
  | .addbExt a => 0xFB :: wordBytes a
  | .lddExt a => 0xFC :: wordBytes a
  | .stdExt a => 0xFD :: wordBytes a
  | .lduExt a => 0xFE :: wordBytes a
  | .stuExt a => 0xFF :: wordBytes a
  | .lbrn off => 0x10 :: 0x21 :: wordBytes off
  | .lbhi off => 0x10 :: 0x22 :: wordBytes off
  | .lbls off => 0x10 :: 0x23 :: wordBytes off
  | .lbhs off => 0x10 :: 0x24 :: wordBytes off
  | .lblo off => 0x10 :: 0x25 :: wordBytes off
  | .lbne off => 0x10 :: 0x26 :: wordBytes off
  | .lbeq off => 0x10 :: 0x27 :: wordBytes off
  | .lbvc off => 0x10 :: 0x28 :: wordBytes off
  | .lbvs off => 0x10 :: 0x29 :: wordBytes off
  | .lbpl off => 0x10 :: 0x2A :: wordBytes off
  | .lbmi off => 0x10 :: 0x2B :: wordBytes off
  | .lbge off => 0x10 :: 0x2C :: wordBytes off
  | .lblt off => 0x10 :: 0x2D :: wordBytes off
  | .lbgt off => 0x10 :: 0x2E :: wordBytes off
  | .lble off => 0x10 :: 0x2F :: wordBytes off
  | .swi2 => [0x10, 0x3F]
  | .cmpdImm v => 0x10 :: 0x83 :: wordBytes v
  | .cmpyImm v => 0x10 :: 0x8C :: wordBytes v
  | .ldyImm v => 0x10 :: 0x8E :: wordBytes v
  | .cmpdDir lo => [0x10, 0x93, lo]
  | .cmpyDir lo => [0x10, 0x9C, lo]
  | .ldyDir lo => [0x10, 0x9E, lo]
  | .styDir lo => [0x10, 0x9F, lo]
  | .cmpdIdx ix => 0x10 :: 0xA3 :: encodeIndexed ix
  | .cmpyIdx ix => 0x10 :: 0xAC :: encodeIndexed ix
  | .ldyIdx ix => 0x10 :: 0xAE :: encodeIndexed ix
  | .styIdx ix => 0x10 :: 0xAF :: encodeIndexed ix
  | .cmpdExt a => 0x10 :: 0xB3 :: wordBytes a
  | .cmpyExt a => 0x10 :: 0xBC :: wordBytes a
  | .ldyExt a => 0x10 :: 0xBE :: wordBytes a
  | .styExt a => 0x10 :: 0xBF :: wordBytes a
  | .ldsImm v => 0x10 :: 0xCE :: wordBytes v
  | .ldsDir lo => [0x10, 0xDE, lo]
  | .stsDir lo => [0x10, 0xDF, lo]
  | .ldsIdx ix => 0x10 :: 0xEE :: encodeIndexed ix
  | .stsIdx ix => 0x10 :: 0xEF :: encodeIndexed ix
  | .ldsExt a => 0x10 :: 0xFE :: wordBytes a
  | .stsExt a => 0x10 :: 0xFF :: wordBytes a
  | .swi3 => [0x11, 0x3F]
  | .cmpuImm v => 0x11 :: 0x83 :: wordBytes v
  | .cmpsImm v => 0x11 :: 0x8C :: wordBytes v
  | .cmpuDir lo => [0x11, 0x93, lo]
  | .cmpsDir lo => [0x11, 0x9C, lo]
  | .cmpuIdx ix => 0x11 :: 0xA3 :: encodeIndexed ix
  | .cmpsIdx ix => 0x11 :: 0xAC :: encodeIndexed ix
  | .cmpuExt a => 0x11 :: 0xB3 :: wordBytes a
  | .cmpsExt a => 0x11 :: 0xBC :: wordBytes a

/-! ### The words of spec/opcode_table.json -/

/-- The longest instruction (R120). -/
def maxLength : Nat := 5

/-- The `n` low bytes of `w`, the least significant first. -/
def lowBytes (n w : Nat) : List Byte :=
  match n with
  | 0 => []
  | n + 1 => BitVec.ofNat 8 w :: lowBytes n (w / 256)

/-- A byte that is a page prefix (R121). -/
def isPrefix (b : Byte) : Bool := b == 0x10#8 || b == 0x11#8

/-- The bytes, in memory order, of a word of `nbits` bits of the opcode table, followed by zeros. Bits 7..0 are the first
byte. The table itself writes a page-2 or page-3 row as a 16-bit number with the prefix in bits 15..8; such a word is
read in that order (log 4). -/
def tableBytes (nbits w : Nat) : List Byte :=
  let bs := lowBytes (nbits / 8) w
  let bs :=
    match bs with
    | [op, p] => if isPrefix p && !isPrefix op then [p, op] else [op, p]
    | other => other
  bs ++ List.replicate (maxLength - bs.length) 0x00

/-- The instruction the decoder reads from a word of the opcode table. -/
def decodeTableWord (nbits w : Nat) : Option Instr :=
  match decode (tableBytes nbits w) with
  | .ok (i, _) => some i
  | .error _ => none

end Sys2Proof
end

