-- ==== Sys2Proof/Forms.lean ====
section
/-! DEFINITION. The instructions by operation and operand: each function gives the constructor of `Instr` that an
operation, a register and an addressing mode stand for (spec/30_encoding.md R122, R146 to R148), so that a statement can
speak of all modes of an operation at once. The meanings do not use them. -/

namespace Sys2Proof

/-- An accumulator. -/
inductive Acc where
  | a | b
deriving DecidableEq, Repr, Inhabited

/-- The 16-bit registers that a load, a store or a compare names. -/
inductive Reg16 where
  | d | x | y | u | s
deriving DecidableEq, Repr, Inhabited

/-- The register of R140 of that name. -/
def Reg16.reg (k : Reg16) : Reg :=
  match k with
  | .d => .d
  | .x => .x
  | .y => .y
  | .u => .u
  | .s => .s

/-- The operations of an accumulator and an operand that write the accumulator. -/
inductive AluOp where
  | add | adc | sub | sbc | and | or | eor
deriving DecidableEq, Repr, Inhabited

/-- The operations of an accumulator and an operand that write flags only. -/
inductive TestOp where
  | cmp | bit
deriving DecidableEq, Repr, Inhabited

/-- The operations of one 8-bit operand that write it back. -/
inductive UnaryOp where
  | neg | com | lsr | ror | asr | asl | rol | dec | inc
deriving DecidableEq, Repr, Inhabited

/-- The branch conditions of spec/43_control_transfer.md R360. -/
inductive Cond where
  | ra | rn | hi | ls | hs | lo | ne | eq | vc | vs | pl | mi | ge | lt | gt | le
deriving DecidableEq, Repr, Inhabited

/-- The LEA destinations. -/
inductive LeaReg where
  | x | y | u | s
deriving DecidableEq, Repr, Inhabited

/-- ADD, ADC, SUB, SBC, AND, OR, EOR. -/
def Instr.alu (op : AluOp) (k : Acc) (o : Operand8) : Instr :=
  match op, k, o with
  | .add, .a, .imm v => .addaImm v
  | .add, .a, .mem (.dir lo) => .addaDir lo
  | .add, .a, .mem (.idx ix) => .addaIdx ix
  | .add, .a, .mem (.ext a) => .addaExt a
  | .add, .b, .imm v => .addbImm v
  | .add, .b, .mem (.dir lo) => .addbDir lo
  | .add, .b, .mem (.idx ix) => .addbIdx ix
  | .add, .b, .mem (.ext a) => .addbExt a
  | .adc, .a, .imm v => .adcaImm v
  | .adc, .a, .mem (.dir lo) => .adcaDir lo
  | .adc, .a, .mem (.idx ix) => .adcaIdx ix
  | .adc, .a, .mem (.ext a) => .adcaExt a
  | .adc, .b, .imm v => .adcbImm v
  | .adc, .b, .mem (.dir lo) => .adcbDir lo
  | .adc, .b, .mem (.idx ix) => .adcbIdx ix
  | .adc, .b, .mem (.ext a) => .adcbExt a
  | .sub, .a, .imm v => .subaImm v
  | .sub, .a, .mem (.dir lo) => .subaDir lo
  | .sub, .a, .mem (.idx ix) => .subaIdx ix
  | .sub, .a, .mem (.ext a) => .subaExt a
  | .sub, .b, .imm v => .subbImm v
  | .sub, .b, .mem (.dir lo) => .subbDir lo
  | .sub, .b, .mem (.idx ix) => .subbIdx ix
  | .sub, .b, .mem (.ext a) => .subbExt a
  | .sbc, .a, .imm v => .sbcaImm v
  | .sbc, .a, .mem (.dir lo) => .sbcaDir lo
  | .sbc, .a, .mem (.idx ix) => .sbcaIdx ix
  | .sbc, .a, .mem (.ext a) => .sbcaExt a
  | .sbc, .b, .imm v => .sbcbImm v
  | .sbc, .b, .mem (.dir lo) => .sbcbDir lo
  | .sbc, .b, .mem (.idx ix) => .sbcbIdx ix
  | .sbc, .b, .mem (.ext a) => .sbcbExt a
  | .and, .a, .imm v => .andaImm v
  | .and, .a, .mem (.dir lo) => .andaDir lo
  | .and, .a, .mem (.idx ix) => .andaIdx ix
  | .and, .a, .mem (.ext a) => .andaExt a
  | .and, .b, .imm v => .andbImm v
  | .and, .b, .mem (.dir lo) => .andbDir lo
  | .and, .b, .mem (.idx ix) => .andbIdx ix
  | .and, .b, .mem (.ext a) => .andbExt a
  | .or, .a, .imm v => .oraImm v
  | .or, .a, .mem (.dir lo) => .oraDir lo
  | .or, .a, .mem (.idx ix) => .oraIdx ix
  | .or, .a, .mem (.ext a) => .oraExt a
  | .or, .b, .imm v => .orbImm v
  | .or, .b, .mem (.dir lo) => .orbDir lo
  | .or, .b, .mem (.idx ix) => .orbIdx ix
  | .or, .b, .mem (.ext a) => .orbExt a
  | .eor, .a, .imm v => .eoraImm v
  | .eor, .a, .mem (.dir lo) => .eoraDir lo
  | .eor, .a, .mem (.idx ix) => .eoraIdx ix
  | .eor, .a, .mem (.ext a) => .eoraExt a
  | .eor, .b, .imm v => .eorbImm v
  | .eor, .b, .mem (.dir lo) => .eorbDir lo
  | .eor, .b, .mem (.idx ix) => .eorbIdx ix
  | .eor, .b, .mem (.ext a) => .eorbExt a

/-- CMPA, CMPB, BITA, BITB. -/
def Instr.test (op : TestOp) (k : Acc) (o : Operand8) : Instr :=
  match op, k, o with
  | .cmp, .a, .imm v => .cmpaImm v
  | .cmp, .a, .mem (.dir lo) => .cmpaDir lo
  | .cmp, .a, .mem (.idx ix) => .cmpaIdx ix
  | .cmp, .a, .mem (.ext a) => .cmpaExt a
  | .cmp, .b, .imm v => .cmpbImm v
  | .cmp, .b, .mem (.dir lo) => .cmpbDir lo
  | .cmp, .b, .mem (.idx ix) => .cmpbIdx ix
  | .cmp, .b, .mem (.ext a) => .cmpbExt a
  | .bit, .a, .imm v => .bitaImm v
  | .bit, .a, .mem (.dir lo) => .bitaDir lo
  | .bit, .a, .mem (.idx ix) => .bitaIdx ix
  | .bit, .a, .mem (.ext a) => .bitaExt a
  | .bit, .b, .imm v => .bitbImm v
  | .bit, .b, .mem (.dir lo) => .bitbDir lo
  | .bit, .b, .mem (.idx ix) => .bitbIdx ix
  | .bit, .b, .mem (.ext a) => .bitbExt a

/-- LDA, LDB. -/
def Instr.load8 (k : Acc) (o : Operand8) : Instr :=
  match k, o with
  | .a, .imm v => .ldaImm v
  | .a, .mem (.dir lo) => .ldaDir lo
  | .a, .mem (.idx ix) => .ldaIdx ix
  | .a, .mem (.ext a) => .ldaExt a
  | .b, .imm v => .ldbImm v
  | .b, .mem (.dir lo) => .ldbDir lo
  | .b, .mem (.idx ix) => .ldbIdx ix
  | .b, .mem (.ext a) => .ldbExt a

/-- STA, STB. -/
def Instr.store8 (k : Acc) (m : MemOperand) : Instr :=
  match k, m with
  | .a, .dir lo => .staDir lo
  | .a, .idx ix => .staIdx ix
  | .a, .ext a => .staExt a
  | .b, .dir lo => .stbDir lo
  | .b, .idx ix => .stbIdx ix
  | .b, .ext a => .stbExt a

/-- LDD, LDX, LDY, LDU, LDS. -/
def Instr.load16 (k : Reg16) (o : Operand16) : Instr :=
  match k, o with
  | .d, .imm v => .lddImm v
  | .d, .mem (.dir lo) => .lddDir lo
  | .d, .mem (.idx ix) => .lddIdx ix
  | .d, .mem (.ext a) => .lddExt a
  | .x, .imm v => .ldxImm v
  | .x, .mem (.dir lo) => .ldxDir lo
  | .x, .mem (.idx ix) => .ldxIdx ix
  | .x, .mem (.ext a) => .ldxExt a
  | .y, .imm v => .ldyImm v
  | .y, .mem (.dir lo) => .ldyDir lo
  | .y, .mem (.idx ix) => .ldyIdx ix
  | .y, .mem (.ext a) => .ldyExt a
  | .u, .imm v => .lduImm v
  | .u, .mem (.dir lo) => .lduDir lo
  | .u, .mem (.idx ix) => .lduIdx ix
  | .u, .mem (.ext a) => .lduExt a
  | .s, .imm v => .ldsImm v
  | .s, .mem (.dir lo) => .ldsDir lo
  | .s, .mem (.idx ix) => .ldsIdx ix
  | .s, .mem (.ext a) => .ldsExt a

/-- STD, STX, STY, STU, STS. -/
def Instr.store16 (k : Reg16) (m : MemOperand) : Instr :=
  match k, m with
  | .d, .dir lo => .stdDir lo
  | .d, .idx ix => .stdIdx ix
  | .d, .ext a => .stdExt a
  | .x, .dir lo => .stxDir lo
  | .x, .idx ix => .stxIdx ix
  | .x, .ext a => .stxExt a
  | .y, .dir lo => .styDir lo
  | .y, .idx ix => .styIdx ix
  | .y, .ext a => .styExt a
  | .u, .dir lo => .stuDir lo
  | .u, .idx ix => .stuIdx ix
  | .u, .ext a => .stuExt a
  | .s, .dir lo => .stsDir lo
  | .s, .idx ix => .stsIdx ix
  | .s, .ext a => .stsExt a

/-- CMPD, CMPX, CMPY, CMPU, CMPS. -/
def Instr.cmp16 (k : Reg16) (o : Operand16) : Instr :=
  match k, o with
  | .d, .imm v => .cmpdImm v
  | .d, .mem (.dir lo) => .cmpdDir lo
  | .d, .mem (.idx ix) => .cmpdIdx ix
  | .d, .mem (.ext a) => .cmpdExt a
  | .x, .imm v => .cmpxImm v
  | .x, .mem (.dir lo) => .cmpxDir lo
  | .x, .mem (.idx ix) => .cmpxIdx ix
  | .x, .mem (.ext a) => .cmpxExt a
  | .y, .imm v => .cmpyImm v
  | .y, .mem (.dir lo) => .cmpyDir lo
  | .y, .mem (.idx ix) => .cmpyIdx ix
  | .y, .mem (.ext a) => .cmpyExt a
  | .u, .imm v => .cmpuImm v
  | .u, .mem (.dir lo) => .cmpuDir lo
  | .u, .mem (.idx ix) => .cmpuIdx ix
  | .u, .mem (.ext a) => .cmpuExt a
  | .s, .imm v => .cmpsImm v
  | .s, .mem (.dir lo) => .cmpsDir lo
  | .s, .mem (.idx ix) => .cmpsIdx ix
  | .s, .mem (.ext a) => .cmpsExt a

/-- ADDD. -/
def Instr.addd (o : Operand16) : Instr :=
  match o with
  | .imm v => .adddImm v
  | .mem (.dir lo) => .adddDir lo
  | .mem (.idx ix) => .adddIdx ix
  | .mem (.ext a) => .adddExt a

/-- SUBD. -/
def Instr.subd (o : Operand16) : Instr :=
  match o with
  | .imm v => .subdImm v
  | .mem (.dir lo) => .subdDir lo
  | .mem (.idx ix) => .subdIdx ix
  | .mem (.ext a) => .subdExt a

/-- NEG, COM, LSR, ROR, ASR, ASL, ROL, DEC, INC on memory. -/
def Instr.unaryMem (op : UnaryOp) (m : MemOperand) : Instr :=
  match op, m with
  | .neg, .dir lo => .negDir lo
  | .neg, .idx ix => .negIdx ix
  | .neg, .ext a => .negExt a
  | .com, .dir lo => .comDir lo
  | .com, .idx ix => .comIdx ix
  | .com, .ext a => .comExt a
  | .lsr, .dir lo => .lsrDir lo
  | .lsr, .idx ix => .lsrIdx ix
  | .lsr, .ext a => .lsrExt a
  | .ror, .dir lo => .rorDir lo
  | .ror, .idx ix => .rorIdx ix
  | .ror, .ext a => .rorExt a
  | .asr, .dir lo => .asrDir lo
  | .asr, .idx ix => .asrIdx ix
  | .asr, .ext a => .asrExt a
  | .asl, .dir lo => .lslDir lo
  | .asl, .idx ix => .lslIdx ix
  | .asl, .ext a => .lslExt a
  | .rol, .dir lo => .rolDir lo
  | .rol, .idx ix => .rolIdx ix
  | .rol, .ext a => .rolExt a
  | .dec, .dir lo => .decDir lo
  | .dec, .idx ix => .decIdx ix
  | .dec, .ext a => .decExt a
  | .inc, .dir lo => .incDir lo
  | .inc, .idx ix => .incIdx ix
  | .inc, .ext a => .incExt a

/-- NEGA, NEGB, COMA, COMB and so on. -/
def Instr.unaryAcc (op : UnaryOp) (k : Acc) : Instr :=
  match op, k with
  | .neg, .a => .nega
  | .neg, .b => .negb
  | .com, .a => .coma
  | .com, .b => .comb
  | .lsr, .a => .lsra
  | .lsr, .b => .lsrb
  | .ror, .a => .rora
  | .ror, .b => .rorb
  | .asr, .a => .asra
  | .asr, .b => .asrb
  | .asl, .a => .lsla
  | .asl, .b => .lslb
  | .rol, .a => .rola
  | .rol, .b => .rolb
  | .dec, .a => .deca
  | .dec, .b => .decb
  | .inc, .a => .inca
  | .inc, .b => .incb

/-- CLR on memory. -/
def Instr.clr (m : MemOperand) : Instr :=
  match m with
  | .dir lo => .clrDir lo
  | .idx ix => .clrIdx ix
  | .ext a => .clrExt a

/-- TST on memory. -/
def Instr.tst (m : MemOperand) : Instr :=
  match m with
  | .dir lo => .tstDir lo
  | .idx ix => .tstIdx ix
  | .ext a => .tstExt a

/-- CLRA, CLRB. -/
def Instr.clrAcc (k : Acc) : Instr :=
  match k with
  | .a => .clra
  | .b => .clrb

/-- TSTA, TSTB. -/
def Instr.tstAcc (k : Acc) : Instr :=
  match k with
  | .a => .tsta
  | .b => .tstb

/-- JMP. -/
def Instr.jmp (m : MemOperand) : Instr :=
  match m with
  | .dir lo => .jmpDir lo
  | .idx ix => .jmpIdx ix
  | .ext a => .jmpExt a

/-- JSR. -/
def Instr.jsr (m : MemOperand) : Instr :=
  match m with
  | .dir lo => .jsrDir lo
  | .idx ix => .jsrIdx ix
  | .ext a => .jsrExt a

/-- LEAX, LEAY, LEAU, LEAS. -/
def Instr.lea (k : LeaReg) (ix : Indexed) : Instr :=
  match k, ix with
  | .x, ix => .leax ix
  | .y, ix => .leay ix
  | .u, ix => .leau ix
  | .s, ix => .leas ix

/-- The short branches. -/
def Instr.shortBranch (c : Cond) (off : Byte) : Instr :=
  match c, off with
  | .ra, off => .bra off
  | .rn, off => .brn off
  | .hi, off => .bhi off
  | .ls, off => .bls off
  | .hs, off => .bhs off
  | .lo, off => .blo off
  | .ne, off => .bne off
  | .eq, off => .beq off
  | .vc, off => .bvc off
  | .vs, off => .bvs off
  | .pl, off => .bpl off
  | .mi, off => .bmi off
  | .ge, off => .bge off
  | .lt, off => .blt off
  | .gt, off => .bgt off
  | .le, off => .ble off

/-- The long branches. -/
def Instr.longBranch (c : Cond) (off : Word) : Instr :=
  match c, off with
  | .ra, off => .lbra off
  | .rn, off => .lbrn off
  | .hi, off => .lbhi off
  | .ls, off => .lbls off
  | .hs, off => .lbhs off
  | .lo, off => .lblo off
  | .ne, off => .lbne off
  | .eq, off => .lbeq off
  | .vc, off => .lbvc off
  | .vs, off => .lbvs off
  | .pl, off => .lbpl off
  | .mi, off => .lbmi off
  | .ge, off => .lbge off
  | .lt, off => .lblt off
  | .gt, off => .lbgt off
  | .le, off => .lble off

end Sys2Proof
end

