-- ==== Sys2Proof/Config.lean ====
section
/-! DEFINITION. The parameters of spec/00_scope.md R10 that a whole run fixes and the free values (host draws) of R10:
opaque constants without a body, so that no proof can see one. RAM_INIT, ROM_IMAGE, TAPE_TRAP_ADDRS,
TAPE_STACK_OFFSET, P_FF48_LAYOUT and DISK_IMAGE are no constants here: they are data of `State` (logs 2, 9, 10, 11). -/

namespace Sys2Proof

/-- The keyboard matrix of spec/10_state.md R49: for each of the eight columns its seven row bits, 1 = key pressed. -/
abbrev KeyMatrix := Vector (BitVec 7) 8

/-- The nine colours of the VDG (spec/62_sam_vdg.md R539). -/
inductive VdgColor where
  | green | yellow | blue | red | buff | cyan | magenta | orange | black
deriving DecidableEq, Repr, Inhabited

/-- What a cold reset leaves unspecified, COLD_DRAW of R10 (spec/10_state.md R57). -/
structure ColdDraw where
  a : Byte
  b : Byte
  x : Word
  y : Word
  u : Word
  s : Word
  e : Bool
  h : Bool
  n : Bool
  z : Bool
  v : Bool
  c : Bool
deriving DecidableEq, Repr, Inhabited

namespace Config

/-! ### Parameters fixed for a run (logs 7 and 8) -/

/-- P_DAA_V: true = DAA clears V, false = DAA leaves V unchanged (spec/41_arithmetic.md R281). -/
opaque daaClearsV : Bool

/-- P_SEX_V: true = SEX clears V, false = SEX leaves V unchanged (R282). -/
opaque sexClearsV : Bool

/-- P_DMA_FATAL: whether a render in SAM mode 7 is fatal (spec/62_sam_vdg.md R550). -/
opaque dmaFatal : Bool

/-- KEYMAP: the effect of a host scan code on the keyboard matrix (spec/61_pia.md R494). -/
opaque keymap : Byte → KeyMatrix → KeyMatrix

/-- FONT: the eight pixels, bit 7 leftmost, of a line 0..11 of a glyph (R542). -/
opaque font : BitVec 6 → Nat → Byte

/-- PALETTE, as an order of the host's sixteen palette entries: the colours take its first nine places, so that
every injective PALETTE of R541 is one of these and each of these is injective. -/
opaque paletteOrder : Equiv.Perm (Fin 16)

/-- ID_CRC: the two CRC bytes, high then low, that READ ADDRESS returns (spec/63_disk.md R596). -/
opaque idCrc : Byte × Byte

/-! ### Free values, applied to the number of the draw (log 6) -/

/-- `joystick_comparator()` at draw `k` (R493). -/
opaque joystickComparator (k : Nat) : Bool

/-- `joystick_button()` at draw `k`; false = pressed (R493). -/
opaque joystickButton (k : Nat) : Bool

/-- The cassette input bit at draw `k` (R495). -/
opaque cassetteInput (k : Nat) : Bool

/-- The levels of undriven port lines at draw `k` (R486). -/
opaque undrivenPins (k : Nat) : Byte

/-- The level of a CX2 line that is an input or in a strobe mode, at draw `k` (R485). -/
opaque cx2Level (k : Nat) : Bool

/-- What a read of a SAM address returns at draw `k` (R532). -/
opaque samReadByte (k : Nat) : Byte

/-- COLD_DRAW at draw `k`: the registers and flags after a cold reset performed by the executive
(spec/70_reset_and_hazards.md R670). The machine right after power-on is `State.reset` (log 1). -/
opaque coldDraw (k : Nat) : ColdDraw

/-- Byte `i` (= 256·y + x) of the frame that is host draw `k` (R550, R551). -/
opaque frameByte (k i : Nat) : Byte

end Config
end Sys2Proof
end

