-- ==== Sys2Proof/Machine/Map.lean ====
section
/-! DEFINITION. The tags of the bus cells and the definitions the init phase makes of them
(spec/20_memory.md R81, R82; spec/70_reset_and_hazards.md R680). -/

namespace Sys2Proof.Machine

/-- The I/O handlers of R82 and spec/64_tape_trap.md R630. -/
inductive Device where
  | pia0 | pia1 | wd2797 | sam | tapeTrap
deriving DecidableEq, Repr, Inhabited

/-- The tag of a cell: Ram, Rom, or Io with the handler of its range, if it has one (R81). -/
inductive Tag where
  | ram
  | rom
  | io (handler : Option Device)
deriving DecidableEq, Repr, Inhabited

/-- One definition of the tags of the cells lo..hi, both included. -/
structure TagRange where
  lo : Nat
  hi : Nat
  tag : Tag
deriving DecidableEq, Repr, Inhabited

/-- `define_rom(lo, hi)` (R81): the newest definition stands first. -/
def defineRom (lo hi : Nat) (ts : List TagRange) : List TagRange := ⟨lo, hi, .rom⟩ :: ts

/-- `define_io(lo, hi, handler)` (R81); a later definition over a range replaces the earlier one. -/
def defineIo (lo hi : Nat) (h : Option Device) (ts : List TagRange) : List TagRange := ⟨lo, hi, .io h⟩ :: ts

/-- The tag of cell `a`: the newest definition that covers it; a cell never defined is Ram (R680 step 1). -/
def tagAt (ts : List TagRange) (a : Nat) : Tag :=
  match ts with
  | [] => .ram
  | t :: rest => if t.lo ≤ a ∧ a ≤ t.hi then t.tag else tagAt rest a

/-- The definitions of R680 steps 2 and 3, in order, for the tape-trap cells `traps` (TAPE_TRAP_ADDRS of R10). -/
def initTags (traps : List Nat) : List TagRange :=
  let rom := defineRom 0xFFF0 0xFFFF (defineRom 0x8000 0xFEFF [])
  let gaps := defineIo 0xFF00 0xFFEF none rom
  let dev := defineIo 0xFFC0 0xFFDF (some .sam) (defineIo 0xFF40 0xFF48 (some .wd2797)
    (defineIo 0xFF20 0xFF23 (some .pia1) (defineIo 0xFF00 0xFF03 (some .pia0) gaps)))
  traps.foldl (fun ts a => defineIo a a (some .tapeTrap) ts) dev

end Sys2Proof.Machine
end

