-- ==== Sys2Proof/Machine/State.lean ====
section
/-! DEFINITION. The state of the machine as plain data, the reasons a step can stop, and the state right after
power-on (spec/10_state.md; spec/70_reset_and_hazards.md R670 to R682). -/

namespace Sys2Proof.Machine

/-! ### The CPU -/

/-- The condition codes, CC[7] = E down to CC[0] = C (R37). All eight bits are flags; none is reserved (log 23). -/
structure CC where
  e : Bool
  f : Bool
  h : Bool
  i : Bool
  n : Bool
  z : Bool
  v : Bool
  c : Bool
deriving DecidableEq, Repr, Inhabited

/-- The register file (R30); D is A:B and no storage of its own (R31). -/
structure Regs where
  a : Byte
  b : Byte
  dp : Byte
  cc : CC
  x : Word
  y : Word
  u : Word
  s : Word
  pc : Word
deriving DecidableEq, Repr, Inhabited

/-- `cpu_state` (R43). -/
inductive CpuState where
  | running | halted | waitingInterrupt | syncing | exception
deriving DecidableEq, Repr, Inhabited

/-- The request latches and the NMI arming (R44, R45). -/
structure Lines where
  nmiReq : Bool
  firqReq : Bool
  irqReq : Bool
  nmiArmed : Bool
deriving DecidableEq, Repr, Inhabited

/-! ### Memory -/

/-- The byte values of a set of cells: the cells that are not 0x00, by rising address (`Memory.wf`, log 2).
Also used for the disk image and the track buffer. -/
abbrev Memory := List Host.Cell

/-! ### Devices -/

/-- One MC6821 (R48). -/
structure Pia where
  ora : Byte
  orb : Byte
  ddra : Byte
  ddrb : Byte
  cra : Byte
  crb : Byte
deriving DecidableEq, Repr, Inhabited

/-- `fn_key` (R49). -/
inductive FnKey where
  | none | loaderEscape
deriving DecidableEq, Repr, Inhabited

/-- The frame buffer (R51): the 49,152 bytes of a render, byte 256·y + x being `frame[y][x]`, or a frame that is
host draw `k`, whose byte `i` is `Config.frameByte k i` (R550, R551; log 14). -/
inductive Frame where
  | hostDraw (k : Nat)
  | rendered (bytes : List Byte)
deriving DecidableEq, Repr, Inhabited

/-- `disk_state` (R52). -/
inductive DiskState where
  | idle | read | write | readId | writeTrk
deriving DecidableEq, Repr, Inhabited

/-- The registers, flags and transfer of the WD2797 (R52). -/
structure Disk where
  cmd : Byte
  status : Byte
  track : Byte
  sector : Byte
  data : Byte
  motorOn : Bool
  doubleDensity : Bool
  nmiInhibit : Bool
  drive : BitVec 2
  trackBuf : Memory
  bufIndex : Nat
  bufLen : Nat
  diskState : DiskState
  xferOffset : Nat
  intrqArmed : Bool
  idleTicks : Nat
deriving DecidableEq, Repr, Inhabited

/-- The type of a mounted image (spec/63_disk.md R586). -/
inductive ImageKind where
  | none | raw | vdk
deriving DecidableEq, Repr, Inhabited

/-- The mounted image and its current contents (R586): byte `i < length` is `Memory.read bytes i`. -/
structure DiskImage where
  kind : ImageKind
  rawSides : Nat
  length : Nat
  bytes : Memory
deriving DecidableEq, Repr, Inhabited

/-- `vdk_header`: what the mount read of the geometry (R52, R587). -/
structure VdkHeader where
  headerSize : Nat
  sides : Nat
  tracks : Nat
deriving DecidableEq, Repr, Inhabited

/-- Where a flag of the drive-control latch stands in the byte written: the number of its bit, and whether the flag is
the complement of the bit. -/
structure LatchBit where
  index : Fin 8
  inverted : Bool
deriving DecidableEq, Repr, Inhabited

/-- A value of P_FF48_LAYOUT (spec/00_scope.md R10, spec/63_disk.md R585; log 11): the two bits of `drive`, and the bits of
the three flags. -/
structure LatchLayout where
  drive1 : LatchBit
  drive0 : LatchBit
  motorOn : LatchBit
  doubleDensity : LatchBit
  nmiInhibit : LatchBit
deriving DecidableEq, Repr, Inhabited

/-- The default of P_FF48_LAYOUT, the Dragon DOS latch (R585). -/
def LatchLayout.dragonDos : LatchLayout :=
  { drive1 := ⟨1, false⟩, drive0 := ⟨0, false⟩, motorOn := ⟨2, false⟩, doubleDensity := ⟨3, true⟩, nmiInhibit := ⟨5, true⟩ }

/-- `tape_state` (R54). -/
inductive TapeState where
  | idle | leader | sync | header | data | eof | write
deriving DecidableEq, Repr, Inhabited

/-- The tape trap (R54). -/
structure Tape where
  tapeState : TapeState
  callCount : Nat
  blockLen : Nat
  blockPos : Nat
  capture : List Byte
  filename : List Byte
deriving DecidableEq, Repr, Inhabited

/-- The devices. The SAM's sixteen toggles stand at the bit numbers k of spec/62_sam_vdg.md R531.
`tapeStackOffset` and `latchLayout` are the parameters TAPE_STACK_OFFSET and P_FF48_LAYOUT of R10 (logs 9 and 11), which no
step changes. -/
structure Devices where
  pia0 : Pia
  pia1 : Pia
  kbd : KeyMatrix
  fnKey : FnKey
  sam : BitVec 16
  piaVideoMode : Byte
  frame : Frame
  disk : Disk
  image : DiskImage
  vdk : VdkHeader
  tape : Tape
  tapeStackOffset : Word
  latchLayout : LatchLayout
deriving DecidableEq, Repr

/-! ### The executive and the host -/

/-- The codes of the fatal events (spec/60_exceptions.md R432). -/
inductive FatalCode where
  | illegalOpcode | diskUnknownCommand | vdgDmaMode
deriving DecidableEq, Repr, Inhabited

/-- The executive's state (R55) and the absorbing `Halted(code)` of R434. -/
structure Executive where
  lastRefreshUs : BitVec 32
  lastTickUs : BitVec 32
  resetPressedAt : Option (BitVec 32)
  suspended : Bool
  resumeState : CpuState
  fatal : Option FatalCode
  halted : Option FatalCode
deriving DecidableEq, Repr, Inhabited

/-- What the loader collaborator does while the CPU is suspended (spec/65_executive.md R658). -/
inductive LoaderEvent where
  | mountImage (kind : ImageKind) (rawSides : Nat) (bytes : List Byte)
  | loadCartridge (bytes : List Byte)
  | loadBasic (bytes : List Byte)
  | loadDos (offset : Nat) (bytes : List Byte)
  | resume
deriving DecidableEq, Repr, Inhabited

/-- What the host answers to the polls of one iteration of R655: `reset_button()` (false = pressed), the values of
`now_us()` at the reset poll, the tick poll and the frame poll, `read_scan_code()`, whether a cartridge edge is
presented, and what the loader does before the next iteration (log 5). -/
structure HostAnswers where
  resetButton : Bool
  nowReset : BitVec 32
  nowTick : BitVec 32
  scanCode : Byte
  cartridgeEdge : Bool
  nowFrame : BitVec 32
  loader : List LoaderEvent
deriving DecidableEq, Repr, Inhabited

/-- The calls the block makes of the host (R56; log 21). -/
inductive HostCall where
  | writeDac (value : BitVec 6)
  | audioMuxSelect (mux : BitVec 2)
  | motorLedOn (mask : Byte)
  | motorLedOff (mask : Byte)
  | tapeFile (filename bytes : List Byte)
  | diagnostic (code : FatalCode) (lastPc : Word) (bytes : List Byte)
  | halt
deriving DecidableEq, Repr, Inhabited

/-- The host's side, the model's own: the answers to come, the calls made (newest first), the number of the next
free value. -/
structure HostSide where
  answers : List HostAnswers
  calls : List HostCall
  draws : Nat
deriving DecidableEq, Repr, Inhabited

/-- The machine of spec/65_executive.md R650. -/
structure State where
  regs : Regs
  cpuState : CpuState
  lines : Lines
  lastPc : Word
  lastOpcodeBytes : List Byte
  mem : Memory
  tags : List TagRange
  dev : Devices
  exe : Executive
  host : HostSide
deriving DecidableEq, Repr

/-- Why a step stops. -/
inductive Fault where
  /-- Raised by `step` alone, at a machine that is already in `Halted(code)`: "From then on nothing of the machine
  changes" (R434). Safe: the machine of the spec makes no further step either. -/
  | halted (code : FatalCode)
deriving DecidableEq, Repr

/-- Why a step is refused. -/
inductive Refusal where
  /-- An arm of `exec` that has no meaning yet would answer this; no arm does. Safe: the model would stop. -/
  | notModelled (mnemonic : String)
deriving DecidableEq, Repr

/-! ### Reset values -/

/-- A PIA after reset (spec/61_pia.md R502). -/
def Pia.reset : Pia := ⟨0, 0, 0, 0, 0, 0⟩

/-- The disk controller after reset (spec/63_disk.md R604). The spec gives no value after a reset for `track_buf` and for
`xfer_offset`: 0x00 in every byte (log 15) and 0 (log 34) are DESIGN CHOICEs of the model. -/
def Disk.reset : Disk :=
  { cmd := 0, status := 0, track := 0, sector := 0, data := 0, motorOn := false, doubleDensity := false,
    nmiInhibit := false, drive := 0, trackBuf := [], bufIndex := 0, bufLen := 0, diskState := .idle,
    xferOffset := 0, intrqArmed := false, idleTicks := 0 }

/-- The tape trap after reset (spec/64_tape_trap.md R639). -/
def Tape.reset : Tape := ⟨.idle, 0, 0, 0, [], []⟩

/-- The machine right after power-on (R674, R680, R682). What the spec leaves open takes the values of logs 1, 2, 5, 6,
9, 10, 12, 13, 14, 15 and 34; the program counter is the reset vector of the all-zero ROM image of log 2. -/
def State.reset : State :=
  { regs :=
      { a := 0, b := 0, dp := 0,
        cc := { e := false, f := true, h := false, i := true, n := false, z := false, v := false, c := false },
        x := 0, y := 0, u := 0, s := 0, pc := 0 }
    cpuState := .running
    lines := ⟨false, false, false, false⟩
    lastPc := 0
    lastOpcodeBytes := []
    mem := []
    tags := initTags []
    dev :=
      { pia0 := .reset, pia1 := .reset, kbd := Vector.replicate 8 0, fnKey := .none, sam := 0, piaVideoMode := 0,
        frame := .hostDraw 0, disk := .reset, image := ⟨.none, 1, 0, []⟩, vdk := ⟨0, 0, 0⟩, tape := .reset,
        tapeStackOffset := 0, latchLayout := .dragonDos }
    exe := ⟨0, 0, none, false, .running, none, none⟩
    host := ⟨[], [], 1⟩ }

end Sys2Proof.Machine
end

