-- ==== Sys2Proof/Machine/Flags.lean ====
section
/-! DEFINITION. The condition codes as a byte, and every flag computation of spec/41_arithmetic.md,
spec/42_logic_shift.md and spec/43_control_transfer.md. A flag an operation does not name is unchanged (R13). -/

namespace Sys2Proof.Machine

/-! ### CC as a byte (spec/10_state.md R37) -/

/-- Bit `k` of a byte that is 1 exactly when `p`. -/
def flagBit (p : Bool) (k : Nat) : Byte := if p then 1#8 <<< k else 0#8

/-- CC as the byte E F H I N Z V C (R37). -/
def CC.toByte (cc : CC) : Byte :=
  flagBit cc.e 7 ||| flagBit cc.f 6 ||| flagBit cc.h 5 ||| flagBit cc.i 4 |||
    flagBit cc.n 3 ||| flagBit cc.z 2 ||| flagBit cc.v 1 ||| flagBit cc.c 0

/-- The flags of a byte (R37). -/
def CC.ofByte (b : Byte) : CC :=
  { e := bit b 7, f := bit b 6, h := bit b 5, i := bit b 4, n := bit b 3, z := bit b 2, v := bit b 1, c := bit b 0 }

/-- `CC & m`, flag by flag (R313, R413). -/
def CC.and (cc m : CC) : CC :=
  { e := cc.e && m.e, f := cc.f && m.f, h := cc.h && m.h, i := cc.i && m.i,
    n := cc.n && m.n, z := cc.z && m.z, v := cc.v && m.v, c := cc.c && m.c }

/-- `CC | m`, flag by flag (R314). -/
def CC.or (cc m : CC) : CC :=
  { e := cc.e || m.e, f := cc.f || m.f, h := cc.h || m.h, i := cc.i || m.i,
    n := cc.n || m.n, z := cc.z || m.z, v := cc.v || m.v, c := cc.c || m.c }

/-! ### Results with flags -/

/-- N and Z of an 8-bit result (R13). -/
def CC.nz8 (r : Byte) (cc : CC) : CC := { cc with n := bit r 7, z := r == 0#8 }

/-- N and Z of a 16-bit result (R13). -/
def CC.nz16 (r : Word) (cc : CC) : CC := { cc with n := r.getLsbD 15, z := r == 0#16 }

/-- Load, store, test and logic: N and Z of the value, V cleared (R170, R180, R272, R300). -/
def CC.nzv8 (r : Byte) (cc : CC) : CC := { CC.nz8 r cc with v := false }

/-- The 16-bit form of `CC.nzv8` (R173, R183). -/
def CC.nzv16 (r : Word) (cc : CC) : CC := { CC.nz16 r cc with v := false }

/-- The 9-bit carry in of 0 or 1. -/
def carryIn (c : Bool) : BitVec 9 := if c then 1#9 else 0#9

/-- `Add8(a, b, c)` and its flags H, N, Z, V, C (R230). -/
def add8 (a b : Byte) (c : Bool) (cc : CC) : Byte × CC :=
  let t : BitVec 9 := a.setWidth 9 + b.setWidth 9 + carryIn c
  let r : Byte := t.setWidth 8
  (r, { CC.nz8 r cc with
        h := bit (a ^^^ b ^^^ r) 4, v := bit ((a ^^^ r) &&& (b ^^^ r)) 7, c := t.getLsbD 8 })

/-- `Sub8(a, b, c)` and its flags N, Z, V, C (R231). -/
def sub8 (a b : Byte) (c : Bool) (cc : CC) : Byte × CC :=
  let t : BitVec 9 := a.setWidth 9 - b.setWidth 9 - carryIn c
  let r : Byte := t.setWidth 8
  (r, { CC.nz8 r cc with v := bit ((a ^^^ b) &&& (a ^^^ r)) 7, c := t.getLsbD 8 })

/-- `Add16(a, b)` and its flags N, Z, V, C (R232). -/
def add16 (a b : Word) (cc : CC) : Word × CC :=
  let t : BitVec 17 := a.setWidth 17 + b.setWidth 17
  let r : Word := t.setWidth 16
  (r, { CC.nz16 r cc with v := ((a ^^^ r) &&& (b ^^^ r)).getLsbD 15, c := t.getLsbD 16 })

/-- `Sub16(a, b)` and its flags N, Z, V, C (R233). -/
def sub16 (a b : Word) (cc : CC) : Word × CC :=
  let t : BitVec 17 := a.setWidth 17 - b.setWidth 17
  let r : Word := t.setWidth 16
  (r, { CC.nz16 r cc with v := ((a ^^^ b) &&& (a ^^^ r)).getLsbD 15, c := t.getLsbD 16 })

/-! ### Operations of an accumulator and an operand: the operand second, the result first -/

/-- ADDA, ADDB (R240, R241). -/
def opAdd (a m : Byte) (cc : CC) : Byte × CC := add8 a m false cc

/-- ADCA, ADCB (R242, R243). -/
def opAdc (a m : Byte) (cc : CC) : Byte × CC := add8 a m cc.c cc

/-- SUBA, SUBB, CMPA, CMPB (R245, R246, R250, R251). -/
def opSub (a m : Byte) (cc : CC) : Byte × CC := sub8 a m false cc

/-- SBCA, SBCB (R247, R248). -/
def opSbc (a m : Byte) (cc : CC) : Byte × CC := sub8 a m cc.c cc

/-- ANDA, ANDB, BITA, BITB (R300, R305, R311). -/
def opAnd (a m : Byte) (cc : CC) : Byte × CC := (a &&& m, CC.nzv8 (a &&& m) cc)

/-- ORA, ORB (R300, R307). -/
def opOr (a m : Byte) (cc : CC) : Byte × CC := (a ||| m, CC.nzv8 (a ||| m) cc)

/-- EORA, EORB (R300, R309). -/
def opEor (a m : Byte) (cc : CC) : Byte × CC := (a ^^^ m, CC.nzv8 (a ^^^ m) cc)

/-! ### Operations of one 8-bit operand, in an accumulator or in memory -/

/-- NEG (R260): C is the borrow of `0 - m`. -/
def opNeg (m : Byte) (cc : CC) : Byte × CC :=
  let r := 0#8 - m
  (r, { CC.nz8 r cc with v := m == 0x80#8, c := m != 0x00#8 })

/-- INC (R263): C unchanged. -/
def opInc (m : Byte) (cc : CC) : Byte × CC :=
  let r := m + 1#8
  (r, { CC.nz8 r cc with v := m == 0x7F#8 })

/-- DEC (R266): C unchanged. -/
def opDec (m : Byte) (cc : CC) : Byte × CC :=
  let r := m - 1#8
  (r, { CC.nz8 r cc with v := m == 0x80#8 })

/-- COM (R320). -/
def opCom (m : Byte) (cc : CC) : Byte × CC := (~~~m, { CC.nzv8 (~~~m) cc with c := true })

/-- LSR (R301, R325): N cleared, V unchanged. -/
def opLsr (m : Byte) (cc : CC) : Byte × CC :=
  let r := m >>> 1
  (r, { cc with n := false, z := r == 0#8, c := bit m 0 })

/-- ASR (R301, R328): bit 7 replicated, V unchanged. -/
def opAsr (m : Byte) (cc : CC) : Byte × CC :=
  let r := (m >>> 1) ||| (m &&& 0x80#8)
  (r, { CC.nz8 r cc with c := bit m 0 })

/-- ASL, LSL (R301, R331). -/
def opAsl (m : Byte) (cc : CC) : Byte × CC :=
  let r := m <<< 1
  (r, { CC.nz8 r cc with v := bit m 7 ^^ bit m 6, c := bit m 7 })

/-- ROL (R301, R334): C into bit 0, bit 7 into C. -/
def opRol (m : Byte) (cc : CC) : Byte × CC :=
  let r := (m <<< 1) ||| flagBit cc.c 0
  (r, { CC.nz8 r cc with v := bit m 7 ^^ bit m 6, c := bit m 7 })

/-- ROR (R301, R337): C into bit 7, bit 0 into C, V unchanged. -/
def opRor (m : Byte) (cc : CC) : Byte × CC :=
  let r := (m >>> 1) ||| flagBit cc.c 7
  (r, { CC.nz8 r cc with c := bit m 0 })

/-- The flags of CLR (R269, R270). -/
def CC.cleared (cc : CC) : CC := { cc with n := false, z := true, v := false, c := false }

/-! ### MUL, DAA, SEX -/

/-- MUL (R280): the product and the flags Z and C. -/
def opMul (a b : Byte) (cc : CC) : Word × CC :=
  let d := zext8 a * zext8 b
  (d, { cc with z := d == 0#16, c := d.getLsbD 7 })

/-- The correction `cf` of DAA (R281). -/
def daaCorrection (a : Byte) (cc : CC) : Byte :=
  let lo := (a.extractLsb' 0 4).toNat
  let hi := (a.extractLsb' 4 4).toNat
  (if cc.h || decide (lo > 9) then 0x06#8 else 0x00#8) |||
    (if cc.c || decide (hi > 9) || (decide (hi > 8) && decide (lo > 9)) then 0x60#8 else 0x00#8)

/-- DAA (R281): A, N, Z, C; V by the parameter P_DAA_V (log 7). -/
def opDaa (a : Byte) (cc : CC) : Byte × CC :=
  let cf := daaCorrection a cc
  let r := a + cf
  (r, { CC.nz8 r cc with
        c := cc.c || (cf &&& 0x60#8) != 0x00#8
        v := if Config.daaClearsV then false else cc.v })

/-- SEX (R282): A, N, Z; V by the parameter P_SEX_V (log 7). -/
def opSex (b : Byte) (cc : CC) : Byte × CC :=
  let a := if bit b 7 then 0xFF#8 else 0x00#8
  (a, { CC.nz16 (joinBytes a b) cc with v := if Config.sexClearsV then false else cc.v })

/-! ### Branch conditions (R360) -/

/-- C = 0 and Z = 0. -/
def CC.isHi (cc : CC) : Bool := !cc.c && !cc.z

/-- C = 1 or Z = 1. -/
def CC.isLs (cc : CC) : Bool := cc.c || cc.z

/-- N ^ V = 0. -/
def CC.isGe (cc : CC) : Bool := !(cc.n ^^ cc.v)

/-- N ^ V = 1. -/
def CC.isLt (cc : CC) : Bool := cc.n ^^ cc.v

/-- Z = 0 and N ^ V = 0. -/
def CC.isGt (cc : CC) : Bool := !cc.z && !(cc.n ^^ cc.v)

/-- Z = 1 or N ^ V = 1. -/
def CC.isLe (cc : CC) : Bool := cc.z || (cc.n ^^ cc.v)

end Sys2Proof.Machine
end

