-- ==== Sys2Proof/Machine/Memory.lean ====
section
/-! DEFINITION. Reading and writing a byte of a canonical list of cells (log 2). -/

namespace Sys2Proof.Machine

/-- What a cell that is not listed holds: RAM_INIT and ROM_IMAGE of `State.reset` (log 2). -/
def Memory.unlisted : Byte := 0

/-- The byte at address `a`. -/
def Memory.read (m : Memory) (a : Nat) : Byte :=
  match m with
  | [] => unlisted
  | (k, b) :: rest => if k = a then b else Memory.read rest a

/-- Put the byte `v` at `a`, at its place in the order of addresses. -/
def Memory.insert (m : Memory) (a : Nat) (v : Byte) : Memory :=
  match m with
  | [] => [(a, v)]
  | (k, b) :: rest =>
    if a < k then (a, v) :: (k, b) :: rest
    else if k = a then (a, v) :: rest
    else (k, b) :: Memory.insert rest a v

/-- Take every entry for `a` out. -/
def Memory.erase (m : Memory) (a : Nat) : Memory :=
  match m with
  | [] => []
  | (k, b) :: rest => if k = a then Memory.erase rest a else (k, b) :: Memory.erase rest a

/-- Write `v` at `a`; writing what an unlisted cell holds takes the entry out. -/
def Memory.write (m : Memory) (a : Nat) (v : Byte) : Memory :=
  if v = unlisted then Memory.erase m a else Memory.insert m a v

/-- Write the bytes of `bs` at `a`, `a + 1`, … -/
def Memory.writeList (m : Memory) (a : Nat) (bs : List Byte) : Memory :=
  match bs with
  | [] => m
  | b :: rest => Memory.writeList (Memory.write m a b) (a + 1) rest

/-- The `n` bytes from `a` on. -/
def Memory.readList (m : Memory) (a n : Nat) : List Byte :=
  match n with
  | 0 => []
  | n + 1 => Memory.read m a :: Memory.readList m (a + 1) n

/-- The canonical form: addresses strictly rising from `lo` on, no entry that an unlisted cell would read as. -/
def Memory.wfFrom (lo : Nat) (m : Memory) : Bool :=
  match m with
  | [] => true
  | (k, b) :: rest => decide (lo ≤ k) && decide (b ≠ unlisted) && Memory.wfFrom (k + 1) rest

/-- The canonical form of a list of cells. -/
def Memory.wf (m : Memory) : Bool := Memory.wfFrom 0 m

/-- Every listed address lies below `n`. -/
def Memory.below (n : Nat) (m : Memory) : Bool := m.all (fun c => decide (c.1 < n))

end Sys2Proof.Machine
end

