-- ==== Sys2Proof/Machine/Pia.lean ====
section
/-! DEFINITION. Draws, request latches and host calls, and the two MC6821 PIAs (spec/61_pia.md). -/

namespace Sys2Proof.Machine

/-! ### Small operations every device uses -/

/-- Take the number of the next free value (log 6). -/
def State.draw (s : State) : Nat × State :=
  (s.host.draws, { s with host := { s.host with draws := s.host.draws + 1 } })

/-- Record a call made of the host (spec/10_state.md R56; log 21). -/
def State.call (c : HostCall) (s : State) : State := { s with host := { s.host with calls := c :: s.host.calls } }

/-- `cpu.nmi()` (R44). -/
def State.requestNmi (s : State) : State := { s with lines := { s.lines with nmiReq := true } }

/-- `cpu.firq()` (R44). -/
def State.requestFirq (s : State) : State := { s with lines := { s.lines with firqReq := true } }

/-- `cpu.irq()` (R44). -/
def State.requestIrq (s : State) : State := { s with lines := { s.lines with irqReq := true } }

/-- Change the devices. -/
def State.mapDev (f : Devices → Devices) (s : State) : State := { s with dev := f s.dev }

/-! ### The PIAs -/

/-- Which of the two PIAs (R480). -/
inductive PiaId where
  | pia0 | pia1
deriving DecidableEq, Repr

/-- The PIA named. -/
def State.pia (id : PiaId) (s : State) : Pia :=
  match id with
  | .pia0 => s.dev.pia0
  | .pia1 => s.dev.pia1

/-- Replace the PIA named. -/
def State.setPia (id : PiaId) (p : Pia) (s : State) : State :=
  match id with
  | .pia0 => { s with dev := { s.dev with pia0 := p } }
  | .pia1 => { s with dev := { s.dev with pia1 := p } }

/-- The interrupt output of one side, from its control register (R488). -/
def crIrq (cr : Byte) : Bool := (bit cr 7 && bit cr 0) || (bit cr 6 && bit cr 3 && !bit cr 5)

/-- The interrupt output of a PIA (R488). -/
def Pia.irqOut (p : Pia) : Bool := crIrq p.cra || crIrq p.crb

/-- The CPU line a PIA drives (R489). -/
def State.requestLine (id : PiaId) (s : State) : State :=
  match id with
  | .pia0 => s.requestIrq
  | .pia1 => s.requestFirq

/-- After an event or access: the CPU latch is set when the output is 1 and was 0 before, or the event was an enabled
CX1 event (R488). -/
def State.piaNotify (id : PiaId) (before enabledCx1 : Bool) (s : State) : State :=
  if (s.pia id).irqOut && (!before || enabledCx1) then s.requestLine id else s

/-- A CB1 event: the flag is set whatever the edge bit, then R488 (R483, R490, R498). -/
def State.cb1Event (id : PiaId) (s : State) : State :=
  let p := s.pia id
  (s.setPia id { p with crb := p.crb ||| 0x80#8 }).piaNotify id p.irqOut (bit p.crb 0)

/-- The level of a CX2 line: CRX[3] in manual mode, otherwise a host draw (R485). -/
def State.cx2Level (cr : Byte) (s : State) : Bool × State :=
  if bit cr 5 && bit cr 4 then (bit cr 3, s)
  else
    let d := s.draw
    (Config.cx2Level d.1, d.2)

/-! ### Port inputs -/

/-- The row bits of the pressed keys of the strobed columns of the list, the first being column `c`. -/
def strobedRows (ddrb orb : Byte) (c : Nat) (cols : List (BitVec 7)) : BitVec 7 :=
  match cols with
  | [] => 0#7
  | col :: rest => (if bit ddrb c && !bit orb c then col else 0#7) ||| strobedRows ddrb orb (c + 1) rest

/-- PIA0's seven row inputs: a row is 0 when a strobed column has its key pressed (R493). -/
def keyboardRows (p : Pia) (kbd : KeyMatrix) : BitVec 7 := ~~~(strobedRows p.ddrb p.orb 0 kbd.toList)

/-- The external inputs of port A, drawn at the read (R493, R495). -/
def State.pinsA (id : PiaId) (s : State) : Byte × State :=
  let d := s.draw
  match id with
  | .pia0 =>
    let rows := (keyboardRows s.dev.pia0 s.dev.kbd).setWidth 8
    let button := flagBit (Config.joystickButton d.1) 0 ||| 0x7E#8
    ((rows &&& button) ||| flagBit (Config.joystickComparator d.1) 7, d.2)
  | .pia1 =>
    ((Config.undrivenPins d.1 &&& 0xFD#8) ||| flagBit (Config.cassetteInput d.1) 1, d.2)

/-- The external inputs of port B: every line not driven is a host draw (R493, R496). -/
def State.pinsB (s : State) : Byte × State :=
  let d := s.draw
  (Config.undrivenPins d.1, d.2)

/-- `(OR & DDR) | (pins & ~DDR)` (R492). -/
def portValue (or ddr pins : Byte) : Byte := (or &&& ddr) ||| (pins &&& ~~~ddr)

/-- Read the register at offset `off` of a PIA (R481, R487, R492). -/
def State.readPia (id : PiaId) (off : BitVec 2) (s : State) : Byte × State :=
  let p := s.pia id
  match off.toNat with
  | 0 =>
    if bit p.cra 2 then
      let d := s.pinsA id
      (portValue p.ora p.ddra d.1,
        (d.2.setPia id { p with cra := p.cra &&& 0x3F#8 }).piaNotify id p.irqOut false)
    else (p.ddra, s)
  | 1 => (p.cra, s)
  | 2 =>
    if bit p.crb 2 then
      let d := s.pinsB
      (portValue p.orb p.ddrb d.1,
        (d.2.setPia id { p with crb := p.crb &&& 0x3F#8 }).piaNotify id p.irqOut false)
    else (p.ddrb, s)
  | _ => (p.crb, s)

/-! ### Register writes -/

/-- A control-register write changes bits 5:0 only (R482). -/
def writeCr (old v : Byte) : Byte := (old &&& 0xC0#8) ||| (v &&& 0x3F#8)

/-- After every write to PIA0 CRA or CRB: `audio_mux_select((CB2 << 1) | CA2)` (R491). -/
def State.reportMux (s : State) : State :=
  let cb2 := s.cx2Level s.dev.pia0.crb
  let ca2 := cb2.2.cx2Level s.dev.pia0.cra
  ca2.2.call (.audioMuxSelect ((if cb2.1 then 2#2 else 0#2) ||| (if ca2.1 then 1#2 else 0#2)))

/-- After every write to PIA1 CRA: the tape motor LED by the level of CA2 (R500). -/
def State.reportMotor (s : State) : State :=
  let ca2 := s.cx2Level s.dev.pia1.cra
  ca2.2.call (if ca2.1 then .motorLedOn 0x02 else .motorLedOff 0x02)

/-- What a write to CRA makes the PIA tell the host (R491, R500). -/
def State.afterCra (id : PiaId) (s : State) : State :=
  match id with
  | .pia0 => s.reportMux
  | .pia1 => s.reportMotor

/-- What a write to CRB makes the PIA tell the host (R491); PIA1 CB2 has no function (R500). -/
def State.afterCrb (id : PiaId) (s : State) : State :=
  match id with
  | .pia0 => s.reportMux
  | .pia1 => s

/-- What a write to the port-A data register does beyond ORA: PIA1's DAC (R497). -/
def State.afterOra (id : PiaId) (s : State) : State :=
  match id with
  | .pia0 => s
  | .pia1 => s.call (.writeDac (s.dev.pia1.ora.extractLsb' 2 6))

/-- What a write to the port-B data register does beyond ORB: PIA1 forwards the byte to the VDG (R496). -/
def State.afterOrb (id : PiaId) (v : Byte) (s : State) : State :=
  match id with
  | .pia0 => s
  | .pia1 => { s with dev := { s.dev with piaVideoMode := v } }

/-- Write the register at offset `off` of a PIA (R481), then R488. -/
def State.writePia (id : PiaId) (off : BitVec 2) (v : Byte) (s : State) : State :=
  let p := s.pia id
  let t :=
    match off.toNat with
    | 0 =>
      if bit p.cra 2 then (s.setPia id { p with ora := v }).afterOra id
      else s.setPia id { p with ddra := v }
    | 1 => (s.setPia id { p with cra := writeCr p.cra v }).afterCra id
    | 2 =>
      if bit p.crb 2 then (s.setPia id { p with orb := v }).afterOrb id v
      else s.setPia id { p with ddrb := v }
    | _ => (s.setPia id { p with crb := writeCr p.crb v }).afterCrb id
  t.piaNotify id p.irqOut false

end Sys2Proof.Machine
end

