-- ==== Sys2Proof/Machine/DiskCtl.lean ====
section
/-! DEFINITION. The WD2797 floppy controller (spec/63_disk.md). -/

namespace Sys2Proof.Machine

/-! ### The image (R586 to R589) -/

/-- The header read at a mount (R587): a VDK's from its bytes, a byte beyond the image being 0x00 (DEDUCED, log 27); a RAW
image's from `raw_sides`. The fields that no rule gives are 0 (DESIGN CHOICE, log 10). -/
def DiskImage.header (img : DiskImage) : VdkHeader :=
  match img.kind with
  | .vdk =>
    { headerSize := (Memory.read img.bytes 2).toNat + 256 * (Memory.read img.bytes 3).toNat
      sides := (Memory.read img.bytes 9).toNat
      tracks := (Memory.read img.bytes 8).toNat }
  | .raw => { headerSize := 0, sides := img.rawSides, tracks := 0 }
  | .none => ⟨0, 0, 0⟩

/-- A mounted image of those bytes (R586). -/
def DiskImage.ofBytes (kind : ImageKind) (rawSides : Nat) (bytes : List Byte) : DiskImage :=
  { kind := kind, rawSides := rawSides, length := bytes.length, bytes := Memory.writeList [] 0 bytes }

/-- Mount an image: `image` and `vdk_header` are replaced and nothing else (R587, spec/65_executive.md R658). -/
def Devices.mount (img : DiskImage) (d : Devices) : Devices := { d with image := img, vdk := img.header }

/-- `Offset(t, s, n)` (R588). -/
def diskOffset (h : VdkHeader) (t side n : Nat) : Nat := h.headerSize + (t * h.sides + side) * 18 * 256 + (n - 1) * 256

/-- The access of `len` bytes at track `t`, side, sector `n` is valid (R589). -/
def diskValid (d : Devices) (t side n len : Nat) : Bool :=
  decide (1 ≤ n) && decide (n ≤ 18) && decide (side < d.vdk.sides) &&
    (d.image.kind != .vdk || decide (t < d.vdk.tracks)) &&
    decide (diskOffset d.vdk t side n + len ≤ d.image.length)

/-! ### Helpers -/

/-- Change the controller. -/
def State.mapDisk (f : Disk → Disk) (s : State) : State := { s with dev := { s.dev with disk := f s.dev.disk } }

/-- Change the bytes of the image; its length never changes (R586). -/
def State.mapImage (f : Memory → Memory) (s : State) : State :=
  { s with dev := { s.dev with image := { s.dev.image with bytes := f s.dev.image.bytes } } }

/-- `Intrq()`: the completion interrupt is armed (R601). -/
def Disk.intrq (d : Disk) : Disk := { d with intrqArmed := true, idleTicks := 0 }

/-- `Fail()`: the error completion (R589). -/
def Disk.fail (d : Disk) : Disk :=
  Disk.intrq { d with status := 0x18, diskState := .idle, bufIndex := 0, bufLen := 0 }

/-- A transfer of `len` bytes begins: Busy is set (R594 to R597). -/
def Disk.start (st : DiskState) (offset len : Nat) (d : Disk) : Disk :=
  { d with xferOffset := offset, bufIndex := 0, bufLen := len, diskState := st, status := 0x01 }

/-- The sector access of a type II command: track and sector registers, side = cmd[1] (R588). -/
def Disk.side (d : Disk) : Nat := if bit d.cmd 1 then 1 else 0

/-! ### Commands (R582, R590 to R599) -/

/-- RESTORE (R590). -/
def Disk.restore (d : Disk) : Disk := Disk.intrq { d with track := 0, status := 0x04, diskState := .idle }

/-- SEEK (R591). -/
def Disk.seek (d : Disk) : Disk :=
  Disk.intrq { d with track := d.data, status := if d.data = 0#8 then 0x04 else 0x00, diskState := .idle }

/-- READ SECTOR (R594). -/
def State.diskReadSector (s : State) : State :=
  let d := s.dev.disk
  if diskValid s.dev d.track.toNat d.side d.sector.toNat 256 then
    let o := diskOffset s.dev.vdk d.track.toNat d.side d.sector.toNat
    s.mapDisk fun d =>
      Disk.start .read o 256 { d with trackBuf := Memory.writeList d.trackBuf 0 (Memory.readList s.dev.image.bytes o 256) }
  else s.mapDisk Disk.fail

/-- WRITE SECTOR (R595): the transfer begins. -/
def State.diskWriteSector (s : State) : State :=
  let d := s.dev.disk
  if diskValid s.dev d.track.toNat d.side d.sector.toNat 256 then
    s.mapDisk (Disk.start .write (diskOffset s.dev.vdk d.track.toNat d.side d.sector.toNat) 256)
  else s.mapDisk Disk.fail

/-- READ ADDRESS (R596); `xfer_offset` is not touched. -/
def Disk.readAddress (d : Disk) : Disk :=
  { d with
    trackBuf := Memory.writeList d.trackBuf 0 [d.track, 0x01, d.sector, 0xFF, Config.idCrc.1, Config.idCrc.2]
    bufIndex := 0, bufLen := 6, diskState := .readId, status := 0x01 }

/-- WRITE TRACK (R597): the transfer begins. -/
def Disk.writeTrack (d : Disk) : Disk :=
  { d with bufIndex := 0, bufLen := 4608, diskState := .writeTrk, status := 0x01 }

/-- FORCE INTERRUPT (R598). -/
def Disk.forceInterrupt (d : Disk) : Disk :=
  { d with diskState := .idle, status := 0x00, bufIndex := 0, bufLen := 0, intrqArmed := false }

/-- A command that needs an image: with none mounted it sets `cmd` only (R584). DESIGN CHOICE (log 39): so it does also
when the loader has mounted an image of type NONE during a transfer; the transfer goes on, where R599 alone would abandon
it. -/
def State.withImage (f : State → State) (s : State) : State := if s.dev.image.kind = .none then s else f s

/-- A write of `v` to 0xFF40: `cmd <- v`, then the command its high nibble selects; any other nibble is the fatal
event DiskUnknownCommand (R581, R582, R584, R599). -/
def State.diskCommand (v : Byte) (s : State) : State :=
  let s := s.mapDisk fun d => { d with cmd := v }
  match (v.extractLsb' 4 4).toNat with
  | 0x0 => s.withImage fun s => s.mapDisk Disk.restore
  | 0x1 => s.withImage fun s => s.mapDisk Disk.seek
  | 0x8 => s.withImage State.diskReadSector
  | 0xA => s.withImage State.diskWriteSector
  | 0xC => s.withImage fun s => s.mapDisk Disk.readAddress
  | 0xD => s.mapDisk Disk.forceInterrupt
  | 0xF => s.withImage fun s => s.mapDisk Disk.writeTrack
  | _ => { s with exe := { s.exe with fatal := some .diskUnknownCommand } }

/-! ### The DATA register (R592, R593, R595, R597) -/

/-- Read DATA (R592). -/
def State.diskReadData (s : State) : Byte × State :=
  let d := s.dev.disk
  if d.diskState = .read ∨ d.diskState = .readId then
    let v := Memory.read d.trackBuf d.bufIndex
    let d1 : Disk := { d with data := v, bufIndex := d.bufIndex + 1, status := d.status &&& 0xFD#8 }
    let d2 := if d1.bufIndex = d1.bufLen then Disk.intrq { d1 with diskState := .idle, status := d1.status &&& 0xFC#8 } else d1
    (v, s.mapDisk fun _ => d2)
  else (d.data, s)

/-- A transfer to the image is complete: Busy is clear and the completion armed (R595, R597). -/
def Disk.finish (d : Disk) : Disk := Disk.intrq { d with diskState := .idle, status := 0x00 }

/-- The 256th byte of a WRITE SECTOR has arrived (R595). An image replaced meanwhile by one that does not hold the
sector makes the completion an error (R586; log 19). -/
def State.finishWriteSector (s : State) : State :=
  let d := s.dev.disk
  if d.xferOffset + 256 ≤ s.dev.image.length then
    (s.mapImage fun m => Memory.writeList m d.xferOffset (Memory.readList d.trackBuf 0 256)).mapDisk Disk.finish
  else s.mapDisk Disk.fail

/-- The 4608th byte of a WRITE TRACK has arrived: stream bytes 111 and 112 name the track and side (R597). -/
def State.finishWriteTrack (s : State) : State :=
  let d := s.dev.disk
  let t := (Memory.read d.trackBuf 111).toNat
  let h := (Memory.read d.trackBuf 112).toNat
  if diskValid s.dev t h 1 4608 then
    let fill := List.replicate 4608 (0xE5 : Byte)
    (s.mapImage fun m => Memory.writeList m (diskOffset s.dev.vdk t h 1) fill).mapDisk
      fun d => Disk.finish { d with trackBuf := Memory.writeList d.trackBuf 0 fill }
  else s.mapDisk Disk.fail

/-- Write DATA (R593). -/
def State.diskWriteData (v : Byte) (s : State) : State :=
  let d := s.dev.disk
  if d.diskState = .write ∨ d.diskState = .writeTrk then
    let s := s.mapDisk fun d =>
      { d with data := v, trackBuf := Memory.write d.trackBuf d.bufIndex v, bufIndex := d.bufIndex + 1, status := d.status &&& 0xFD#8 }
    if s.dev.disk.bufIndex = s.dev.disk.bufLen then
      (if d.diskState = .write then s.finishWriteSector else s.finishWriteTrack)
    else s
  else s.mapDisk fun d => { d with data := v }

/-! ### The window 0xFF40 to 0xFF48 (R581, R585) -/

/-- The value of a flag of the latch in the byte `v`. -/
def LatchBit.value (b : LatchBit) (v : Byte) : Bool := bit v b.index.val ^^ b.inverted

/-- The latch flags that the byte `v` gives (R585; log 11). -/
def LatchLayout.latch (p : LatchLayout) (v : Byte) (d : Disk) : Disk :=
  { d with
    drive := BitVec.ofBool (p.drive1.value v) ++ BitVec.ofBool (p.drive0.value v)
    motorOn := p.motorOn.value v
    doubleDensity := p.doubleDensity.value v
    nmiInhibit := p.nmiInhibit.value v }

/-- A write of the drive-control latch, by the machine's layout, then the motor LED (R585). -/
def State.diskLatch (v : Byte) (s : State) : State :=
  (s.mapDisk (s.dev.latchLayout.latch v)).call
    (if s.dev.latchLayout.motorOn.value v then .motorLedOn 0x01 else .motorLedOff 0x01)

/-- Read the controller's register at 0xFF40 + `off` (R581). -/
def State.readDisk (off : Nat) (s : State) : Byte × State :=
  match off with
  | 0 => (s.dev.disk.status, s)
  | 1 => (s.dev.disk.track, s)
  | 2 => (s.dev.disk.sector, s)
  | 3 => s.diskReadData
  | _ => (0x00, s)

/-- Write the controller's register at 0xFF40 + `off` (R581). -/
def State.writeDisk (off : Nat) (v : Byte) (s : State) : State :=
  match off with
  | 0 => s.diskCommand v
  | 1 => s.mapDisk fun d => { d with track := v }
  | 2 => s.mapDisk fun d => { d with sector := v }
  | 3 => s.diskWriteData v
  | 8 => s.diskLatch v
  | _ => s

/-! ### The tick (R600, R601) -/

/-- One disk tick: a DRQ pulse during a transfer, otherwise the count towards the completion NMI. -/
def State.diskTick (s : State) : State :=
  let d := s.dev.disk
  if d.diskState ≠ .idle then
    (s.mapDisk fun d => { d with status := d.status ||| 0x02#8 }).cb1Event .pia1
  else if d.intrqArmed then
    if d.idleTicks + 1 ≥ 250 then
      let s := s.mapDisk fun d => { d with idleTicks := d.idleTicks + 1, intrqArmed := false }
      if d.nmiInhibit then s else s.requestNmi
    else s.mapDisk fun d => { d with idleTicks := d.idleTicks + 1 }
  else s

end Sys2Proof.Machine
end

