-- ==== Sys2Proof/Machine/TapeTrap.lean ====
section
/-! DEFINITION. The state machine of the cassette tape trap (spec/64_tape_trap.md R633 to R640). The write handler that
feeds it stands in Bus.lean, since it reads memory. -/

namespace Sys2Proof.Machine

/-- The bytes `capture` may hold (R633, spec/00_scope.md R9). -/
def captureLimit : Nat := 65536

/-- `Capture(b)`: append, or drop when the buffer is full (R633). -/
def Tape.captureByte (b : Byte) (t : Tape) : Tape :=
  if t.capture.length < captureLimit then { t with capture := t.capture ++ [b] } else t

/-- An ASCII letter or digit (R634). -/
def isAlnum (b : Byte) : Bool :=
  (decide (0x30 ≤ b.toNat) && decide (b.toNat ≤ 0x39)) || (decide (0x41 ≤ b.toNat) && decide (b.toNat ≤ 0x5A)) ||
    (decide (0x61 ≤ b.toNat) && decide (b.toNat ≤ 0x7A))

/-- The filename after payload byte number `pos` of a header block (R634). -/
def Tape.headerByte (b : Byte) (t : Tape) : Tape :=
  if t.tapeState = .header ∧ 1 ≤ t.blockPos ∧ t.blockPos ≤ 8 ∧ isAlnum b then { t with filename := t.filename ++ [b] } else t

/-- What feeding a byte to the state machine gives: the next tape state and, if the stream was flushed, the file. -/
abbrev TapeStep := Tape × Option (List Byte × List Byte)

/-- WRITE: flush `(filename, capture)` and return to IDLE (R635, R640). -/
def Tape.flush (t : Tape) : TapeStep :=
  ({ t with tapeState := .idle, capture := [], filename := [], blockLen := 0, blockPos := 0 }, some (t.filename, t.capture))

/-- A byte of a block: length, payload, checksum (R634). -/
def Tape.blockByte (b : Byte) (t : Tape) : TapeStep :=
  let t := t.captureByte b
  if t.blockPos = 0 then ({ t with blockLen := b.toNat, blockPos := 1 }, none)
  else if t.blockPos ≤ t.blockLen then ({ t.headerByte b with blockPos := t.blockPos + 1 }, none)
  else if t.tapeState = .eof then Tape.flush { t with blockPos := 0 }
  else ({ t with tapeState := .leader, blockPos := 0 }, none)

/-- Feed the byte `b` (R633). WRITE is no resting state; met all the same, it flushes (log 29). -/
def Tape.feed (b : Byte) (t : Tape) : TapeStep :=
  match t.tapeState with
  | .idle => if b = 0x55#8 then ({ t.captureByte b with tapeState := .leader }, none) else (t, none)
  | .leader =>
    let t := t.captureByte b
    if b = 0x55#8 then (t, none)
    else if b = 0x3C#8 then ({ t with tapeState := .sync }, none)
    else ({ t with tapeState := .idle }, none)
  | .sync =>
    let t := t.captureByte b
    if b = 0x00#8 then ({ t with tapeState := .header, blockPos := 0, filename := [] }, none)
    else if b = 0x01#8 then ({ t with tapeState := .data, blockPos := 0 }, none)
    else if b = 0xFF#8 then ({ t with tapeState := .eof, blockPos := 0 }, none)
    else ({ t with tapeState := .idle }, none)
  | .header => t.blockByte b
  | .data => t.blockByte b
  | .eof => t.blockByte b
  | .write => t.flush

/-- Feed a byte to the machine's trap and hand a flushed file to the host (R640). -/
def State.feedTape (b : Byte) (s : State) : State :=
  let r := s.dev.tape.feed b
  let s := { s with dev := { s.dev with tape := r.1 } }
  match r.2 with
  | none => s
  | some file => s.call (.tapeFile file.1 file.2)

end Sys2Proof.Machine
end

