-- ==== Sys2Proof/Machine/Bus.lean ====
section
/-! DEFINITION. The bus: reading and writing a byte through the tag of its cell (spec/20_memory.md R85 to R91), the SAM's
toggles (spec/62_sam_vdg.md R532) and the tape trap's write handler (spec/64_tape_trap.md R631, R632). -/

namespace Sys2Proof.Machine

/-- The tag of the cell at `a` (R81). -/
def State.tagOf (a : Word) (s : State) : Tag := tagAt s.tags a.toNat

/-- The byte value of the cell at `a`, with no access made. -/
def State.peek (a : Word) (s : State) : Byte := Memory.read s.mem a.toNat

/-- Set the byte value of the cell at `a`, with no access made and whatever its tag. -/
def State.poke (a : Word) (v : Byte) (s : State) : State := { s with mem := Memory.write s.mem a.toNat v }

/-- `load(base, bytes)`, the host's operation: tags are not looked at and no handler runs (R88). -/
def State.load (base : Word) (bytes : List Byte) (s : State) : State :=
  match bytes with
  | [] => s
  | b :: rest => State.load (base + 1#16) rest (s.poke base b)

/-- A read of a SAM address: a host draw, no toggle changes (R532). -/
def State.readSam (s : State) : Byte × State :=
  let d := s.draw
  (Config.samReadByte d.1, d.2)

/-- The SAM's toggles after a write to window offset `2k + v`: bit `k` is `v` (R531, R532). -/
def samToggle (bits : BitVec 16) (off : Nat) : BitVec 16 :=
  let mask : BitVec 16 := 1#16 <<< (off / 2)
  if off % 2 = 1 then bits ||| mask else bits &&& ~~~mask

/-- One bus read (R85, R87): the byte, and the state with the read's side effects. -/
def State.readByte (a : Word) (s : State) : Byte × State :=
  match s.tagOf a with
  | .ram => (s.peek a, s)
  | .rom => (s.peek a, s)
  | .io none => (0x00, s)
  | .io (some .tapeTrap) => (s.peek a, s)
  | .io (some .pia0) => s.readPia .pia0 (a.extractLsb' 0 2)
  | .io (some .pia1) => s.readPia .pia1 (a.extractLsb' 0 2)
  | .io (some .wd2797) => s.readDisk (a.extractLsb' 0 4).toNat
  | .io (some .sam) => s.readSam

/-- A write to a trap cell: the backing byte, then at every 16th call the byte at S + TAPE_STACK_OFFSET is fed to the
state machine (R631, R632). DESIGN CHOICE (log 38): where that address is a device's, the read has the device's side effects,
although R638 calls the trap unobservable. -/
def State.tapeWrite (a : Word) (v : Byte) (s : State) : State :=
  let s := s.poke a v
  let n := (s.dev.tape.callCount + 1) % 16
  let s := s.mapDev fun d => { d with tape := { d.tape with callCount := n } }
  if n = 0 then
    let r := s.readByte (s.regs.s + s.dev.tapeStackOffset)
    r.2.feedTape r.1
  else s

/-- One bus write (R86, R87). -/
def State.writeByte (a : Word) (v : Byte) (s : State) : State :=
  match s.tagOf a with
  | .ram => s.poke a v
  | .rom => s
  | .io none => s
  | .io (some .tapeTrap) => s.tapeWrite a v
  | .io (some .pia0) => s.writePia .pia0 (a.extractLsb' 0 2) v
  | .io (some .pia1) => s.writePia .pia1 (a.extractLsb' 0 2) v
  | .io (some .wd2797) => s.writeDisk (a.extractLsb' 0 4).toNat v
  | .io (some .sam) => s.mapDev fun d => { d with sam := samToggle d.sam (a.extractLsb' 0 5).toNat }

/-- `MemRead(addr, 2)`: the high byte at `a`, then the low byte at `a + 1` modulo 2^16 (R90, R91). -/
def State.readWord (a : Word) (s : State) : Word × State :=
  let h := s.readByte a
  let l := h.2.readByte (a + 1#16)
  (joinBytes h.1 l.1, l.2)

/-- `MemWrite(addr, 2, v)`: the high byte to `a`, then the low byte to `a + 1` (R90, R91). -/
def State.writeWord (a : Word) (v : Word) (s : State) : State :=
  (s.writeByte a (hiByte v)).writeByte (a + 1#16) (loByte v)

end Sys2Proof.Machine
end

