-- ==== Sys2Proof/Machine/Ops.lean ====
section
/-! DEFINITION. The named operations over registers and stacks, taking an exception and returning from one, and the
illegal opcode (spec/00_scope.md R12, spec/10_state.md, spec/44_system.md, spec/60_exceptions.md). -/

namespace Sys2Proof.Machine

/-- The outcome of a meaning. -/
abbrev Result := Host.Outcome State Fault Refusal

/-! ### Registers -/

/-- Change the register file. -/
def State.mapRegs (f : Regs → Regs) (s : State) : State := { s with regs := f s.regs }

/-- Replace CC. -/
def State.setCC (cc : CC) (s : State) : State := s.mapRegs fun r => { r with cc := cc }

/-- Replace PC. -/
def State.setPC (pc : Word) (s : State) : State := s.mapRegs fun r => { r with pc := pc }

/-- D = A:B (R31). -/
def Regs.d (r : Regs) : Word := joinBytes r.a r.b

/-- A write of D writes A and B (R31). -/
def Regs.setD (v : Word) (r : Regs) : Regs := { r with a := hiByte v, b := loByte v }

/-- Read an accumulator. -/
def Regs.acc (r : Regs) (k : Acc) : Byte :=
  match k with
  | .a => r.a
  | .b => r.b

/-- Write an accumulator. -/
def Regs.setAcc (k : Acc) (v : Byte) (r : Regs) : Regs :=
  match k with
  | .a => { r with a := v }
  | .b => { r with b := v }

/-- Read a base register of an indexed operand (R130). -/
def Regs.base (r : Regs) (k : IndexReg) : Word :=
  match k with
  | .x => r.x
  | .y => r.y
  | .u => r.u
  | .s => r.s

/-- Write a base register by auto-increment or auto-decrement: NMI is not armed (R133, R229). -/
def Regs.setBase (k : IndexReg) (v : Word) (r : Regs) : Regs :=
  match k with
  | .x => { r with x := v }
  | .y => { r with y := v }
  | .u => { r with u := v }
  | .s => { r with s := v }

/-- Read a register of R140; an 8-bit register is zero-extended. -/
def Regs.get (r : Regs) (k : Reg) : Word :=
  match k with
  | .d => r.d
  | .x => r.x
  | .y => r.y
  | .u => r.u
  | .s => r.s
  | .pc => r.pc
  | .a => zext8 r.a
  | .b => zext8 r.b
  | .cc => zext8 r.cc.toByte
  | .dp => zext8 r.dp

/-- Write a register of R140; an 8-bit register takes the low byte. -/
def Regs.put (k : Reg) (v : Word) (r : Regs) : Regs :=
  match k with
  | .d => r.setD v
  | .x => { r with x := v }
  | .y => { r with y := v }
  | .u => { r with u := v }
  | .s => { r with s := v }
  | .pc => { r with pc := v }
  | .a => { r with a := loByte v }
  | .b => { r with b := loByte v }
  | .cc => { r with cc := CC.ofByte (loByte v) }
  | .dp => { r with dp := loByte v }

/-- NMI becomes acceptable for good, until the next reset (R45, R229). -/
def State.armNmi (s : State) : State := { s with lines := { s.lines with nmiArmed := true } }

/-- Write a register as an instruction's own destination: a write of S arms NMI (R229). -/
def State.writeReg (k : Reg) (v : Word) (s : State) : State :=
  let s := s.mapRegs (Regs.put k v)
  if k = .s then s.armNmi else s

/-! ### Stacks (R12, R98) -/

/-- Which register points to the stack. -/
inductive StackReg where
  | s | u
deriving DecidableEq, Repr

/-- The base register that a stack pointer is. -/
def StackReg.reg (k : StackReg) : IndexReg :=
  match k with
  | .s => .s
  | .u => .u

/-- `Push8(SP, v)`: decrement, then write (R12). -/
def State.push8 (k : StackReg) (v : Byte) (s : State) : State :=
  let sp := s.regs.base k.reg - 1#16
  (s.mapRegs (Regs.setBase k.reg sp)).writeByte sp v

/-- `Push16(SP, v)`: the low byte first (R12). -/
def State.push16 (k : StackReg) (v : Word) (s : State) : State :=
  (s.push8 k (loByte v)).push8 k (hiByte v)

/-- `Pull8(SP)`: read, then increment (R12). -/
def State.pull8 (k : StackReg) (s : State) : Byte × State :=
  let sp := s.regs.base k.reg
  let r := s.readByte sp
  (r.1, r.2.mapRegs (Regs.setBase k.reg (sp + 1#16)))

/-- `Pull16(SP)`: the high byte first (R12). -/
def State.pull16 (k : StackReg) (s : State) : Word × State :=
  let h := s.pull8 k
  let l := h.2.pull8 k
  (joinBytes h.1 l.1, l.2)

/-! ### Taking an exception (R411, R414 to R416, R440, R441) -/

/-- The vectored events that push and jump (R432). -/
inductive Event where
  | nmi | firq | irq | swi | swi2 | swi3
deriving DecidableEq, Repr

/-- The address of the event's vector (spec/20_memory.md R95). -/
def Event.vector (e : Event) : Word :=
  match e with
  | .swi3 => 0xFFF2
  | .swi2 => 0xFFF4
  | .firq => 0xFFF6
  | .irq => 0xFFF8
  | .swi => 0xFFFA
  | .nmi => 0xFFFC

/-- Whether the event pushes the entire state, which is also the E it writes (R38, R440). -/
def Event.entire (e : Event) : Bool :=
  match e with
  | .firq => false
  | _ => true

/-- The masks the event sets after the push (R414 to R416, R440). -/
def Event.mask (e : Event) (cc : CC) : CC :=
  match e with
  | .nmi => { cc with i := true, f := true }
  | .firq => { cc with i := true, f := true }
  | .irq => { cc with i := true }
  | .swi => { cc with i := true, f := true }
  | .swi2 => cc
  | .swi3 => cc

/-- Write E (R38). -/
def State.setE (e : Bool) (s : State) : State := s.setCC { s.regs.cc with e := e }

/-- `PushEntire`: PC, U, Y, X, DP, B, A, CC (R411). -/
def State.pushEntire (s : State) : State :=
  let s := s.push16 .s s.regs.pc
  let s := s.push16 .s s.regs.u
  let s := s.push16 .s s.regs.y
  let s := s.push16 .s s.regs.x
  let s := s.push8 .s s.regs.dp
  let s := s.push8 .s s.regs.b
  let s := s.push8 .s s.regs.a
  s.push8 .s s.regs.cc.toByte

/-- The short frame of a FIRQ: PC, CC (R440). -/
def State.pushShort (s : State) : State :=
  let s := s.push16 .s s.regs.pc
  s.push8 .s s.regs.cc.toByte

/-- The last part of an entry: set the masks, then PC from the vector (R440, R441). -/
def State.vectorTo (e : Event) (s : State) : State :=
  let s := s.setCC (e.mask s.regs.cc)
  let v := s.readWord e.vector
  v.2.setPC v.1

/-- Taking an exception: E, the push, the masks, the vector (R414 to R416, R440). -/
def State.takeException (e : Event) (s : State) : State :=
  let s := s.setE e.entire
  State.vectorTo e (if e.entire then s.pushEntire else s.pushShort)

/-- CWAI: mask CC, then E and the entire push, then wait (R413). -/
def State.waitForInterrupt (mask : CC) (s : State) : State :=
  let s := s.setCC (s.regs.cc.and mask)
  { (s.setE true).pushEntire with cpuState := .waitingInterrupt }

/-- Returning from one: CC, then the entire state when the pulled E is 1, then PC (R417, R447). -/
def State.returnFromInterrupt (s : State) : State :=
  let cc := s.pull8 .s
  let s := cc.2.setCC (CC.ofByte cc.1)
  let s :=
    if s.regs.cc.e then
      let a := s.pull8 .s
      let s := a.2.mapRegs fun r => { r with a := a.1 }
      let b := s.pull8 .s
      let s := b.2.mapRegs fun r => { r with b := b.1 }
      let dp := s.pull8 .s
      let s := dp.2.mapRegs fun r => { r with dp := dp.1 }
      let x := s.pull16 .s
      let s := x.2.mapRegs fun r => { r with x := x.1 }
      let y := s.pull16 .s
      let s := y.2.mapRegs fun r => { r with y := y.1 }
      let u := s.pull16 .s
      u.2.mapRegs fun r => { r with u := u.1 }
    else s
  let pc := s.pull16 .s
  pc.2.setPC pc.1

/-- `raise IllegalOpcode(last_pc)`: the CPU enters EXCEPTION with PC = last_pc and nothing else changes (R433). -/
def State.raiseIllegal (s : State) : State := { s.setPC s.lastPc with cpuState := .exception }

end Sys2Proof.Machine
end

