-- ==== Sys2Proof/Machine/Operands.lean ====
section
/-! DEFINITION. Effective addresses and operands of every addressing mode (spec/30_encoding.md R123 to R135). The
instruction's bytes have been fetched: PC is the address of the next instruction (spec/10_state.md R35). -/

namespace Sys2Proof.Machine

/-- The address a row of R131 gives before indirection, and the register file after its auto-increment or
auto-decrement (R132, R133). -/
def indexAddress (f : IndexForm) (r : Regs) : Word × Regs :=
  match f with
  | .off5 k n => (r.base k + sext5 n, r)
  | .inc1 k => (r.base k, r.setBase k (r.base k + 1#16))
  | .inc2 k => (r.base k, r.setBase k (r.base k + 2#16))
  | .dec1 k => (r.base k - 1#16, r.setBase k (r.base k - 1#16))
  | .dec2 k => (r.base k - 2#16, r.setBase k (r.base k - 2#16))
  | .zero k => (r.base k, r)
  | .accB k => (r.base k + sext8 r.b, r)
  | .accA k => (r.base k + sext8 r.a, r)
  | .off8 k n => (r.base k + sext8 n, r)
  | .off16 k n => (r.base k + n, r)
  | .accD k => (r.base k + r.d, r)
  | .pcr8 _ n => (r.pc + sext8 n, r)
  | .pcr16 _ n => (r.pc + n, r)
  | .ext _ n => (n, r)

/-- The EA of an indexed operand: with the indirect bit, the pointer at the row's address (R132, R134). -/
def State.indexedEA (ix : Indexed) (s : State) : Word × State :=
  let p := indexAddress ix.form s.regs
  let s := { s with regs := p.2 }
  if ix.indirect then s.readWord p.1 else (p.1, s)

/-- `EA(mode)` of direct, indexed and extended (R124, R125, R132). -/
def State.ea (m : MemOperand) (s : State) : Word × State :=
  match m with
  | .dir lo => (joinBytes s.regs.dp lo, s)
  | .idx ix => s.indexedEA ix
  | .ext a => (a, s)

/-- `Operand8(mode)` (R127). -/
def State.operand8 (o : Operand8) (s : State) : Byte × State :=
  match o with
  | .imm v => (v, s)
  | .mem m =>
    let e := s.ea m
    e.2.readByte e.1

/-- `Operand16(mode)` (R127). -/
def State.operand16 (o : Operand16) (s : State) : Word × State :=
  match o with
  | .imm v => (v, s)
  | .mem m =>
    let e := s.ea m
    e.2.readWord e.1

/-! ### The shapes of the data instructions -/

/-- An accumulator and an 8-bit operand give a result that is written back: ADD, ADC, SUB, SBC, AND, OR, EOR. -/
def State.accOp (f : Byte → Byte → CC → Byte × CC) (k : Acc) (o : Operand8) (s : State) : State :=
  let m := s.operand8 o
  let r := f (m.2.regs.acc k) m.1 m.2.regs.cc
  m.2.mapRegs fun g => { g.setAcc k r.1 with cc := r.2 }

/-- The same with the result discarded: CMP, BIT. -/
def State.accTest (f : Byte → Byte → CC → Byte × CC) (k : Acc) (o : Operand8) (s : State) : State :=
  let m := s.operand8 o
  m.2.setCC (f (m.2.regs.acc k) m.1 m.2.regs.cc).2

/-- An operation of an accumulator alone: NEGA, INCA, LSRA, … -/
def State.accUnary (f : Byte → CC → Byte × CC) (k : Acc) (s : State) : State :=
  let r := f (s.regs.acc k) s.regs.cc
  s.mapRegs fun g => { g.setAcc k r.1 with cc := r.2 }

/-- A read-modify-write instruction: one read and one write of the same cell (R235). -/
def State.rmw (f : Byte → CC → Byte × CC) (m : MemOperand) (s : State) : State :=
  let e := s.ea m
  let v := e.2.readByte e.1
  let r := f v.1 v.2.regs.cc
  (v.2.writeByte e.1 r.1).setCC r.2

/-- LDA, LDB (R170, R171). -/
def State.load8 (k : Acc) (o : Operand8) (s : State) : State :=
  let m := s.operand8 o
  m.2.mapRegs fun g => { g.setAcc k m.1 with cc := CC.nzv8 m.1 g.cc }

/-- LDD, LDX, LDY, LDU, LDS (R172 to R176); LDS arms NMI. -/
def State.load16 (k : Reg) (o : Operand16) (s : State) : State :=
  let m := s.operand16 o
  (m.2.writeReg k m.1).setCC (CC.nzv16 m.1 m.2.regs.cc)

/-- STA, STB (R180, R181): the register is read after the EA is computed. -/
def State.store8 (k : Acc) (m : MemOperand) (s : State) : State :=
  let e := s.ea m
  let v := e.2.regs.acc k
  (e.2.writeByte e.1 v).setCC (CC.nzv8 v e.2.regs.cc)

/-- STD, STX, STY, STU, STS (R182 to R186). -/
def State.store16 (k : Reg) (m : MemOperand) (s : State) : State :=
  let e := s.ea m
  let v := e.2.regs.get k
  (e.2.writeWord e.1 v).setCC (CC.nzv16 v e.2.regs.cc)

/-- LEAX, LEAY: Z from the EA (R190, R191). -/
def State.leaZ (k : Reg) (ix : Indexed) (s : State) : State :=
  let e := s.indexedEA ix
  let t := e.2.writeReg k e.1
  t.setCC { t.regs.cc with z := e.1 == 0#16 }

/-- LEAS, LEAU: no flag; LEAS arms NMI (R192, R193). -/
def State.leaQuiet (k : Reg) (ix : Indexed) (s : State) : State :=
  let e := s.indexedEA ix
  e.2.writeReg k e.1

/-- ADDD, SUBD (R244, R249). -/
def State.dOp (f : Word → Word → CC → Word × CC) (o : Operand16) (s : State) : State :=
  let m := s.operand16 o
  let r := f m.2.regs.d m.1 m.2.regs.cc
  m.2.mapRegs fun g => { g.setD r.1 with cc := r.2 }

/-- CMPD, CMPX, CMPY, CMPU, CMPS (R252 to R256). -/
def State.cmp16 (k : Reg) (o : Operand16) (s : State) : State :=
  let m := s.operand16 o
  m.2.setCC (sub16 (m.2.regs.get k) m.1 m.2.regs.cc).2

/-- CLR on memory: one write and no read (R235, R269). -/
def State.clearMem (m : MemOperand) (s : State) : State :=
  let e := s.ea m
  (e.2.writeByte e.1 0x00).setCC e.2.regs.cc.cleared

/-- TST on memory: one read and no write (R235, R272). -/
def State.testMem (m : MemOperand) (s : State) : State :=
  let e := s.ea m
  let v := e.2.readByte e.1
  v.2.setCC (CC.nzv8 v.1 v.2.regs.cc)

/-- CLRA, CLRB (R270, R271). -/
def State.clearAcc (k : Acc) (s : State) : State := s.mapRegs fun g => { g.setAcc k 0x00 with cc := g.cc.cleared }

/-- TSTA, TSTB (R273, R274). -/
def State.testAcc (k : Acc) (s : State) : State := s.setCC (CC.nzv8 (s.regs.acc k) s.regs.cc)

/-! ### Stack lists (R142, R210 to R213) -/

/-- The other stack pointer, bit 6 of a list. -/
def StackReg.other (k : StackReg) (r : Regs) : Word :=
  match k with
  | .s => r.u
  | .u => r.s

/-- The register that bit 6 of a list names. -/
def StackReg.otherReg (k : StackReg) : Reg :=
  match k with
  | .s => .u
  | .u => .s

/-- Do `f` when `p`. -/
def State.when (p : Bool) (f : State → State) (s : State) : State := if p then f s else s

/-- PSHS, PSHU: PC, other pointer, Y, X, DP, B, A, CC, those whose bit is 1 (R210, R211). -/
def State.pushList (k : StackReg) (pb : Byte) (s : State) : State :=
  let s := s.when (bit pb 7) fun s => s.push16 k s.regs.pc
  let s := s.when (bit pb 6) fun s => s.push16 k (k.other s.regs)
  let s := s.when (bit pb 5) fun s => s.push16 k s.regs.y
  let s := s.when (bit pb 4) fun s => s.push16 k s.regs.x
  let s := s.when (bit pb 3) fun s => s.push8 k s.regs.dp
  let s := s.when (bit pb 2) fun s => s.push8 k s.regs.b
  let s := s.when (bit pb 1) fun s => s.push8 k s.regs.a
  s.when (bit pb 0) fun s => s.push8 k s.regs.cc.toByte

/-- Pull an 8-bit register. -/
def State.pullReg8 (k : StackReg) (r : Reg) (s : State) : State :=
  let v := s.pull8 k
  v.2.writeReg r (zext8 v.1)

/-- Pull a 16-bit register; PULU of S arms NMI (R213). -/
def State.pullReg16 (k : StackReg) (r : Reg) (s : State) : State :=
  let v := s.pull16 k
  v.2.writeReg r v.1

/-- PULS, PULU: CC, A, B, DP, X, Y, other pointer, PC, those whose bit is 1 (R212, R213). -/
def State.pullList (k : StackReg) (pb : Byte) (s : State) : State :=
  let s := s.when (bit pb 0) (State.pullReg8 k .cc)
  let s := s.when (bit pb 1) (State.pullReg8 k .a)
  let s := s.when (bit pb 2) (State.pullReg8 k .b)
  let s := s.when (bit pb 3) (State.pullReg8 k .dp)
  let s := s.when (bit pb 4) (State.pullReg16 k .x)
  let s := s.when (bit pb 5) (State.pullReg16 k .y)
  let s := s.when (bit pb 6) (State.pullReg16 k k.otherReg)
  s.when (bit pb 7) (State.pullReg16 k .pc)

/-! ### Control transfer (R361, R400 to R404) -/

/-- A branch: PC + off when the condition holds (R361). -/
def State.branch (taken : Bool) (off : Word) (s : State) : State :=
  if taken then s.setPC (s.regs.pc + off) else s

/-- BSR, LBSR: push PC, then branch (R400, R401). -/
def State.branchSub (off : Word) (s : State) : State :=
  let s := s.push16 .s s.regs.pc
  s.setPC (s.regs.pc + off)

/-- JMP (R402). -/
def State.jump (m : MemOperand) (s : State) : State :=
  let e := s.ea m
  e.2.setPC e.1

/-- JSR: the EA, then the push, then the jump (R403). -/
def State.jumpSub (m : MemOperand) (s : State) : State :=
  let e := s.ea m
  (e.2.push16 .s e.2.regs.pc).setPC e.1

/-- RTS (R404). -/
def State.returnSub (s : State) : State :=
  let v := s.pull16 .s
  v.2.setPC v.1

/-! ### TFR and EXG (R200, R201) -/

/-- TFR; a pair of unlike sizes is illegal (R141). -/
def State.transfer (src dst : Reg) (s : State) : State :=
  if src.is16 = dst.is16 then s.writeReg dst (s.regs.get src) else s.raiseIllegal

/-- EXG: both reads before either write; a pair of unlike sizes is illegal (R141). -/
def State.exchange (r1 r2 : Reg) (s : State) : State :=
  if r1.is16 = r2.is16 then
    (s.writeReg r1 (s.regs.get r2)).writeReg r2 (s.regs.get r1)
  else s.raiseIllegal

end Sys2Proof.Machine
end

