-- ==== Sys2Proof/Machine/Fetch.lean ====
section
/-! DEFINITION. Fetching an instruction through the bus (spec/00_scope.md R12, spec/30_encoding.md R121, spec/60_exceptions.md
R430, R433). -/

namespace Sys2Proof.Machine

/-- `Fetch8()` (R12): the byte at PC, and PC advanced. -/
def State.fetch8 (s : State) : Byte × State :=
  let r := s.readByte s.regs.pc
  (r.1, r.2.setPC (s.regs.pc + 1#16))

/-- The outcome of a fetch: the instruction, or none where the bytes are illegal, and the state in which PC is past the
bytes fetched and these are recorded. -/
abbrev Fetched := Option Instr × State

/-- Record the bytes of an instruction (spec/10_state.md R42; log 30). -/
def State.recordBytes (bs : List Byte) (s : State) : State := { s with lastOpcodeBytes := bs }

/-- Fetch byte after byte until they are an instruction or illegal; `seen` are those fetched so far. No instruction has
more than `maxLength` bytes (R120), so fuel of that many is never used up. -/
def State.fetchLoop (fuel : Nat) (seen : List Byte) (s : State) : Fetched :=
  match fuel with
  | 0 => (none, s.recordBytes seen)
  | fuel + 1 =>
    let r := s.fetch8
    let seen := seen ++ [r.1]
    match decode seen with
    | .ok (i, _) => (some i, r.2.recordBytes seen)
    | .error .truncated => State.fetchLoop fuel seen r.2
    | .error (.illegalOpcode _ _) => (none, r.2.recordBytes seen)
    | .error (.illegalIndexed _) => (none, r.2.recordBytes seen)
    | .error (.illegalRegisterPair _) => (none, r.2.recordBytes seen)

/-- `last_pc <- PC`, then the fetch (R430). -/
def State.fetch (s : State) : Fetched := State.fetchLoop maxLength [] { s with lastPc := s.regs.pc }

end Sys2Proof.Machine
end

