-- ==== Sys2Proof/Machine/Control.lean ====
section
/-! DEFINITION. Interrupt requests, their acceptance and the wake from CWAI and SYNC (spec/60_exceptions.md R430 to
R442). -/

namespace Sys2Proof.Machine

/-- The acceptable request of highest priority (R436, R437). -/
def State.acceptable (s : State) : Option Event :=
  if s.lines.nmiReq && s.lines.nmiArmed then some .nmi
  else if s.lines.firqReq && !s.regs.cc.f then some .firq
  else if s.lines.irqReq && !s.regs.cc.i then some .irq
  else none

/-- Clear the latch of a request (R437). A software interrupt has none. -/
def Event.clearLatch (e : Event) (l : Lines) : Lines :=
  match e with
  | .nmi => { l with nmiReq := false }
  | .firq => { l with firqReq := false }
  | .irq => { l with irqReq := false }
  | .swi => l
  | .swi2 => l
  | .swi3 => l

/-- Clear the latch in the machine. -/
def State.acknowledge (e : Event) (s : State) : State := { s with lines := e.clearLatch s.lines }

/-- Interrupt entry (R440): the latch, then the exception. -/
def State.enterInterrupt (e : Event) (s : State) : State := (s.acknowledge e).takeException e

/-- The CWAI wake (R441): no push, E stays. -/
def State.wakeFromWait (e : Event) (s : State) : State :=
  { State.vectorTo e (s.acknowledge e) with cpuState := .running }

/-- Any of the three latches (R442). -/
def Lines.any (l : Lines) : Bool := l.nmiReq || l.firqReq || l.irqReq

/-- What a CPU step does, but for running an instruction (R430). -/
inductive CpuAction where
  | stay | execute | enter (e : Event) | wake (e : Event) | unsync
deriving DecidableEq, Repr

/-- The choice of R430, by `cpu_state` and the latches. -/
def State.cpuAction (s : State) : CpuAction :=
  match s.cpuState with
  | .exception => .stay
  | .halted => .stay
  | .waitingInterrupt =>
    match s.acceptable with
    | some e => .wake e
    | none => .stay
  | .syncing => if s.lines.any then .unsync else .stay
  | .running =>
    match s.acceptable with
    | some e => .enter e
    | none => .execute

end Sys2Proof.Machine
end

