-- ==== Sys2Proof/Machine/Arith.lean ====
section
/-! DEFINITION. Add, subtract, compare, negate, increment, decrement, clear, test, MUL, DAA, SEX, ABX (spec/41_arithmetic.md).
Each meaning runs with PC already past the instruction (spec/10_state.md R35). -/

namespace Sys2Proof.Machine

/-- NEG direct (R260). -/
def execNegDir (lo : Byte) (s : State) : Result := .next (s.rmw opNeg (.dir lo))

/-- NEG indexed (R260). -/
def execNegIdx (ix : Indexed) (s : State) : Result := .next (s.rmw opNeg (.idx ix))

/-- NEG extended (R260). -/
def execNegExt (a : Word) (s : State) : Result := .next (s.rmw opNeg (.ext a))

/-- DEC direct (R266). -/
def execDecDir (lo : Byte) (s : State) : Result := .next (s.rmw opDec (.dir lo))

/-- DEC indexed (R266). -/
def execDecIdx (ix : Indexed) (s : State) : Result := .next (s.rmw opDec (.idx ix))

/-- DEC extended (R266). -/
def execDecExt (a : Word) (s : State) : Result := .next (s.rmw opDec (.ext a))

/-- INC direct (R263). -/
def execIncDir (lo : Byte) (s : State) : Result := .next (s.rmw opInc (.dir lo))

/-- INC indexed (R263). -/
def execIncIdx (ix : Indexed) (s : State) : Result := .next (s.rmw opInc (.idx ix))

/-- INC extended (R263). -/
def execIncExt (a : Word) (s : State) : Result := .next (s.rmw opInc (.ext a))

/-- TST direct (R272). -/
def execTstDir (lo : Byte) (s : State) : Result := .next (s.testMem (.dir lo))

/-- TST indexed (R272). -/
def execTstIdx (ix : Indexed) (s : State) : Result := .next (s.testMem (.idx ix))

/-- TST extended (R272). -/
def execTstExt (a : Word) (s : State) : Result := .next (s.testMem (.ext a))

/-- CLR direct (R269). -/
def execClrDir (lo : Byte) (s : State) : Result := .next (s.clearMem (.dir lo))

/-- CLR indexed (R269). -/
def execClrIdx (ix : Indexed) (s : State) : Result := .next (s.clearMem (.idx ix))

/-- CLR extended (R269). -/
def execClrExt (a : Word) (s : State) : Result := .next (s.clearMem (.ext a))

/-- DAA (R281). -/
def execDaa (s : State) : Result :=
  .next (s.mapRegs fun r => { r with a := (opDaa r.a r.cc).1, cc := (opDaa r.a r.cc).2 })

/-- SEX (R282). -/
def execSex (s : State) : Result :=
  .next (s.mapRegs fun r => { r with a := (opSex r.b r.cc).1, cc := (opSex r.b r.cc).2 })

/-- ABX (R283). -/
def execAbx (s : State) : Result := .next (s.mapRegs fun r => { r with x := r.x + zext8 r.b })

/-- MUL (R280). -/
def execMul (s : State) : Result :=
  .next (s.mapRegs fun r => { r.setD (opMul r.a r.b r.cc).1 with cc := (opMul r.a r.b r.cc).2 })

/-- NEGA (R261). -/
def execNega (s : State) : Result := .next (s.accUnary opNeg .a)

/-- DECA (R267). -/
def execDeca (s : State) : Result := .next (s.accUnary opDec .a)

/-- INCA (R264). -/
def execInca (s : State) : Result := .next (s.accUnary opInc .a)

/-- TSTA (R273). -/
def execTsta (s : State) : Result := .next (s.testAcc .a)

/-- CLRA (R270). -/
def execClra (s : State) : Result := .next (s.clearAcc .a)

/-- NEGB (R262). -/
def execNegb (s : State) : Result := .next (s.accUnary opNeg .b)

/-- DECB (R268). -/
def execDecb (s : State) : Result := .next (s.accUnary opDec .b)

/-- INCB (R265). -/
def execIncb (s : State) : Result := .next (s.accUnary opInc .b)

/-- TSTB (R274). -/
def execTstb (s : State) : Result := .next (s.testAcc .b)

/-- CLRB (R271). -/
def execClrb (s : State) : Result := .next (s.clearAcc .b)

/-- SUBA immediate (R245). -/
def execSubaImm (v : Byte) (s : State) : Result := .next (s.accOp opSub .a (.imm v))

/-- SUBA direct (R245). -/
def execSubaDir (lo : Byte) (s : State) : Result := .next (s.accOp opSub .a (.mem (.dir lo)))

/-- SUBA indexed (R245). -/
def execSubaIdx (ix : Indexed) (s : State) : Result := .next (s.accOp opSub .a (.mem (.idx ix)))

/-- SUBA extended (R245). -/
def execSubaExt (a : Word) (s : State) : Result := .next (s.accOp opSub .a (.mem (.ext a)))

/-- CMPA immediate (R250). -/
def execCmpaImm (v : Byte) (s : State) : Result := .next (s.accTest opSub .a (.imm v))

/-- CMPA direct (R250). -/
def execCmpaDir (lo : Byte) (s : State) : Result := .next (s.accTest opSub .a (.mem (.dir lo)))

/-- CMPA indexed (R250). -/
def execCmpaIdx (ix : Indexed) (s : State) : Result := .next (s.accTest opSub .a (.mem (.idx ix)))

/-- CMPA extended (R250). -/
def execCmpaExt (a : Word) (s : State) : Result := .next (s.accTest opSub .a (.mem (.ext a)))

/-- SBCA immediate (R247). -/
def execSbcaImm (v : Byte) (s : State) : Result := .next (s.accOp opSbc .a (.imm v))

/-- SBCA direct (R247). -/
def execSbcaDir (lo : Byte) (s : State) : Result := .next (s.accOp opSbc .a (.mem (.dir lo)))

/-- SBCA indexed (R247). -/
def execSbcaIdx (ix : Indexed) (s : State) : Result := .next (s.accOp opSbc .a (.mem (.idx ix)))

/-- SBCA extended (R247). -/
def execSbcaExt (a : Word) (s : State) : Result := .next (s.accOp opSbc .a (.mem (.ext a)))

/-- SUBD immediate (R249). -/
def execSubdImm (v : Word) (s : State) : Result := .next (s.dOp sub16 (.imm v))

/-- SUBD direct (R249). -/
def execSubdDir (lo : Byte) (s : State) : Result := .next (s.dOp sub16 (.mem (.dir lo)))

/-- SUBD indexed (R249). -/
def execSubdIdx (ix : Indexed) (s : State) : Result := .next (s.dOp sub16 (.mem (.idx ix)))

/-- SUBD extended (R249). -/
def execSubdExt (a : Word) (s : State) : Result := .next (s.dOp sub16 (.mem (.ext a)))

/-- ADCA immediate (R242). -/
def execAdcaImm (v : Byte) (s : State) : Result := .next (s.accOp opAdc .a (.imm v))

/-- ADCA direct (R242). -/
def execAdcaDir (lo : Byte) (s : State) : Result := .next (s.accOp opAdc .a (.mem (.dir lo)))

/-- ADCA indexed (R242). -/
def execAdcaIdx (ix : Indexed) (s : State) : Result := .next (s.accOp opAdc .a (.mem (.idx ix)))

/-- ADCA extended (R242). -/
def execAdcaExt (a : Word) (s : State) : Result := .next (s.accOp opAdc .a (.mem (.ext a)))

/-- ADDA immediate (R240). -/
def execAddaImm (v : Byte) (s : State) : Result := .next (s.accOp opAdd .a (.imm v))

/-- ADDA direct (R240). -/
def execAddaDir (lo : Byte) (s : State) : Result := .next (s.accOp opAdd .a (.mem (.dir lo)))

/-- ADDA indexed (R240). -/
def execAddaIdx (ix : Indexed) (s : State) : Result := .next (s.accOp opAdd .a (.mem (.idx ix)))

/-- ADDA extended (R240). -/
def execAddaExt (a : Word) (s : State) : Result := .next (s.accOp opAdd .a (.mem (.ext a)))

/-- CMPX immediate (R253). -/
def execCmpxImm (v : Word) (s : State) : Result := .next (s.cmp16 .x (.imm v))

/-- CMPX direct (R253). -/
def execCmpxDir (lo : Byte) (s : State) : Result := .next (s.cmp16 .x (.mem (.dir lo)))

/-- CMPX indexed (R253). -/
def execCmpxIdx (ix : Indexed) (s : State) : Result := .next (s.cmp16 .x (.mem (.idx ix)))

/-- CMPX extended (R253). -/
def execCmpxExt (a : Word) (s : State) : Result := .next (s.cmp16 .x (.mem (.ext a)))

/-- SUBB immediate (R246). -/
def execSubbImm (v : Byte) (s : State) : Result := .next (s.accOp opSub .b (.imm v))

/-- SUBB direct (R246). -/
def execSubbDir (lo : Byte) (s : State) : Result := .next (s.accOp opSub .b (.mem (.dir lo)))

/-- SUBB indexed (R246). -/
def execSubbIdx (ix : Indexed) (s : State) : Result := .next (s.accOp opSub .b (.mem (.idx ix)))

/-- SUBB extended (R246). -/
def execSubbExt (a : Word) (s : State) : Result := .next (s.accOp opSub .b (.mem (.ext a)))

/-- CMPB immediate (R251). -/
def execCmpbImm (v : Byte) (s : State) : Result := .next (s.accTest opSub .b (.imm v))

/-- CMPB direct (R251). -/
def execCmpbDir (lo : Byte) (s : State) : Result := .next (s.accTest opSub .b (.mem (.dir lo)))

/-- CMPB indexed (R251). -/
def execCmpbIdx (ix : Indexed) (s : State) : Result := .next (s.accTest opSub .b (.mem (.idx ix)))

/-- CMPB extended (R251). -/
def execCmpbExt (a : Word) (s : State) : Result := .next (s.accTest opSub .b (.mem (.ext a)))

/-- SBCB immediate (R248). -/
def execSbcbImm (v : Byte) (s : State) : Result := .next (s.accOp opSbc .b (.imm v))

/-- SBCB direct (R248). -/
def execSbcbDir (lo : Byte) (s : State) : Result := .next (s.accOp opSbc .b (.mem (.dir lo)))

/-- SBCB indexed (R248). -/
def execSbcbIdx (ix : Indexed) (s : State) : Result := .next (s.accOp opSbc .b (.mem (.idx ix)))

/-- SBCB extended (R248). -/
def execSbcbExt (a : Word) (s : State) : Result := .next (s.accOp opSbc .b (.mem (.ext a)))

/-- ADDD immediate (R244). -/
def execAdddImm (v : Word) (s : State) : Result := .next (s.dOp add16 (.imm v))

/-- ADDD direct (R244). -/
def execAdddDir (lo : Byte) (s : State) : Result := .next (s.dOp add16 (.mem (.dir lo)))

/-- ADDD indexed (R244). -/
def execAdddIdx (ix : Indexed) (s : State) : Result := .next (s.dOp add16 (.mem (.idx ix)))

/-- ADDD extended (R244). -/
def execAdddExt (a : Word) (s : State) : Result := .next (s.dOp add16 (.mem (.ext a)))

/-- ADCB immediate (R243). -/
def execAdcbImm (v : Byte) (s : State) : Result := .next (s.accOp opAdc .b (.imm v))

/-- ADCB direct (R243). -/
def execAdcbDir (lo : Byte) (s : State) : Result := .next (s.accOp opAdc .b (.mem (.dir lo)))

/-- ADCB indexed (R243). -/
def execAdcbIdx (ix : Indexed) (s : State) : Result := .next (s.accOp opAdc .b (.mem (.idx ix)))

/-- ADCB extended (R243). -/
def execAdcbExt (a : Word) (s : State) : Result := .next (s.accOp opAdc .b (.mem (.ext a)))

/-- ADDB immediate (R241). -/
def execAddbImm (v : Byte) (s : State) : Result := .next (s.accOp opAdd .b (.imm v))

/-- ADDB direct (R241). -/
def execAddbDir (lo : Byte) (s : State) : Result := .next (s.accOp opAdd .b (.mem (.dir lo)))

/-- ADDB indexed (R241). -/
def execAddbIdx (ix : Indexed) (s : State) : Result := .next (s.accOp opAdd .b (.mem (.idx ix)))

/-- ADDB extended (R241). -/
def execAddbExt (a : Word) (s : State) : Result := .next (s.accOp opAdd .b (.mem (.ext a)))

/-- CMPD immediate (R252). -/
def execCmpdImm (v : Word) (s : State) : Result := .next (s.cmp16 .d (.imm v))

/-- CMPD direct (R252). -/
def execCmpdDir (lo : Byte) (s : State) : Result := .next (s.cmp16 .d (.mem (.dir lo)))

/-- CMPD indexed (R252). -/
def execCmpdIdx (ix : Indexed) (s : State) : Result := .next (s.cmp16 .d (.mem (.idx ix)))

/-- CMPD extended (R252). -/
def execCmpdExt (a : Word) (s : State) : Result := .next (s.cmp16 .d (.mem (.ext a)))

/-- CMPY immediate (R254). -/
def execCmpyImm (v : Word) (s : State) : Result := .next (s.cmp16 .y (.imm v))

/-- CMPY direct (R254). -/
def execCmpyDir (lo : Byte) (s : State) : Result := .next (s.cmp16 .y (.mem (.dir lo)))

/-- CMPY indexed (R254). -/
def execCmpyIdx (ix : Indexed) (s : State) : Result := .next (s.cmp16 .y (.mem (.idx ix)))

/-- CMPY extended (R254). -/
def execCmpyExt (a : Word) (s : State) : Result := .next (s.cmp16 .y (.mem (.ext a)))

/-- CMPU immediate (R255). -/
def execCmpuImm (v : Word) (s : State) : Result := .next (s.cmp16 .u (.imm v))

/-- CMPU direct (R255). -/
def execCmpuDir (lo : Byte) (s : State) : Result := .next (s.cmp16 .u (.mem (.dir lo)))

/-- CMPU indexed (R255). -/
def execCmpuIdx (ix : Indexed) (s : State) : Result := .next (s.cmp16 .u (.mem (.idx ix)))

/-- CMPU extended (R255). -/
def execCmpuExt (a : Word) (s : State) : Result := .next (s.cmp16 .u (.mem (.ext a)))

/-- CMPS immediate (R256). -/
def execCmpsImm (v : Word) (s : State) : Result := .next (s.cmp16 .s (.imm v))

/-- CMPS direct (R256). -/
def execCmpsDir (lo : Byte) (s : State) : Result := .next (s.cmp16 .s (.mem (.dir lo)))

/-- CMPS indexed (R256). -/
def execCmpsIdx (ix : Indexed) (s : State) : Result := .next (s.cmp16 .s (.mem (.idx ix)))

/-- CMPS extended (R256). -/
def execCmpsExt (a : Word) (s : State) : Result := .next (s.cmp16 .s (.mem (.ext a)))

end Sys2Proof.Machine
end

