-- ==== Sys2Proof/Machine/Branch.lean ====
section
/-! DEFINITION. Branches, jumps and subroutine calls (spec/43_control_transfer.md).
Each meaning runs with PC already past the instruction (spec/10_state.md R35). -/

namespace Sys2Proof.Machine

/-- JMP direct (R402). -/
def execJmpDir (lo : Byte) (s : State) : Result := .next (s.jump (.dir lo))

/-- JMP indexed (R402). -/
def execJmpIdx (ix : Indexed) (s : State) : Result := .next (s.jump (.idx ix))

/-- JMP extended (R402). -/
def execJmpExt (a : Word) (s : State) : Result := .next (s.jump (.ext a))

/-- LBRA (R380). -/
def execLbra (off : Word) (s : State) : Result := .next (s.branch true off)

/-- LBSR (R401). -/
def execLbsr (off : Word) (s : State) : Result := .next (s.branchSub off)

/-- BRA (R362). -/
def execBra (off : Byte) (s : State) : Result := .next (s.branch true (sext8 off))

/-- BRN (R363). -/
def execBrn (off : Byte) (s : State) : Result := .next (s.branch false (sext8 off))

/-- BHI (R364). -/
def execBhi (off : Byte) (s : State) : Result := .next (s.branch s.regs.cc.isHi (sext8 off))

/-- BLS (R365). -/
def execBls (off : Byte) (s : State) : Result := .next (s.branch s.regs.cc.isLs (sext8 off))

/-- BHS/BCC (R366). -/
def execBhs (off : Byte) (s : State) : Result := .next (s.branch (!s.regs.cc.c) (sext8 off))

/-- BLO/BCS (R367). -/
def execBlo (off : Byte) (s : State) : Result := .next (s.branch s.regs.cc.c (sext8 off))

/-- BNE (R368). -/
def execBne (off : Byte) (s : State) : Result := .next (s.branch (!s.regs.cc.z) (sext8 off))

/-- BEQ (R369). -/
def execBeq (off : Byte) (s : State) : Result := .next (s.branch s.regs.cc.z (sext8 off))

/-- BVC (R370). -/
def execBvc (off : Byte) (s : State) : Result := .next (s.branch (!s.regs.cc.v) (sext8 off))

/-- BVS (R371). -/
def execBvs (off : Byte) (s : State) : Result := .next (s.branch s.regs.cc.v (sext8 off))

/-- BPL (R372). -/
def execBpl (off : Byte) (s : State) : Result := .next (s.branch (!s.regs.cc.n) (sext8 off))

/-- BMI (R373). -/
def execBmi (off : Byte) (s : State) : Result := .next (s.branch s.regs.cc.n (sext8 off))

/-- BGE (R374). -/
def execBge (off : Byte) (s : State) : Result := .next (s.branch s.regs.cc.isGe (sext8 off))

/-- BLT (R375). -/
def execBlt (off : Byte) (s : State) : Result := .next (s.branch s.regs.cc.isLt (sext8 off))

/-- BGT (R376). -/
def execBgt (off : Byte) (s : State) : Result := .next (s.branch s.regs.cc.isGt (sext8 off))

/-- BLE (R377). -/
def execBle (off : Byte) (s : State) : Result := .next (s.branch s.regs.cc.isLe (sext8 off))

/-- RTS (R404). -/
def execRts (s : State) : Result := .next s.returnSub

/-- BSR (R400). -/
def execBsr (off : Byte) (s : State) : Result := .next (s.branchSub (sext8 off))

/-- JSR direct (R403). -/
def execJsrDir (lo : Byte) (s : State) : Result := .next (s.jumpSub (.dir lo))

/-- JSR indexed (R403). -/
def execJsrIdx (ix : Indexed) (s : State) : Result := .next (s.jumpSub (.idx ix))

/-- JSR extended (R403). -/
def execJsrExt (a : Word) (s : State) : Result := .next (s.jumpSub (.ext a))

/-- LBRN (R381). -/
def execLbrn (off : Word) (s : State) : Result := .next (s.branch false off)

/-- LBHI (R382). -/
def execLbhi (off : Word) (s : State) : Result := .next (s.branch s.regs.cc.isHi off)

/-- LBLS (R383). -/
def execLbls (off : Word) (s : State) : Result := .next (s.branch s.regs.cc.isLs off)

/-- LBHS/LBCC (R384). -/
def execLbhs (off : Word) (s : State) : Result := .next (s.branch (!s.regs.cc.c) off)

/-- LBLO/LBCS (R385). -/
def execLblo (off : Word) (s : State) : Result := .next (s.branch s.regs.cc.c off)

/-- LBNE (R386). -/
def execLbne (off : Word) (s : State) : Result := .next (s.branch (!s.regs.cc.z) off)

/-- LBEQ (R387). -/
def execLbeq (off : Word) (s : State) : Result := .next (s.branch s.regs.cc.z off)

/-- LBVC (R388). -/
def execLbvc (off : Word) (s : State) : Result := .next (s.branch (!s.regs.cc.v) off)

/-- LBVS (R389). -/
def execLbvs (off : Word) (s : State) : Result := .next (s.branch s.regs.cc.v off)

/-- LBPL (R390). -/
def execLbpl (off : Word) (s : State) : Result := .next (s.branch (!s.regs.cc.n) off)

/-- LBMI (R391). -/
def execLbmi (off : Word) (s : State) : Result := .next (s.branch s.regs.cc.n off)

/-- LBGE (R392). -/
def execLbge (off : Word) (s : State) : Result := .next (s.branch s.regs.cc.isGe off)

/-- LBLT (R393). -/
def execLblt (off : Word) (s : State) : Result := .next (s.branch s.regs.cc.isLt off)

/-- LBGT (R394). -/
def execLbgt (off : Word) (s : State) : Result := .next (s.branch s.regs.cc.isGt off)

/-- LBLE (R395). -/
def execLble (off : Word) (s : State) : Result := .next (s.branch s.regs.cc.isLe off)

end Sys2Proof.Machine
end

