-- ==== Sys2Proof/Machine/Load.lean ====
section
/-! DEFINITION. Loads, stores, LEA, TFR, EXG, PSH and PUL (spec/40_load_store.md).
Each meaning runs with PC already past the instruction (spec/10_state.md R35). -/

namespace Sys2Proof.Machine

/-- EXG (R201). -/
def execExg (src : Reg) (dst : Reg) (s : State) : Result := .next (s.exchange src dst)

/-- TFR (R200). -/
def execTfr (src : Reg) (dst : Reg) (s : State) : Result := .next (s.transfer src dst)

/-- LEAX indexed (R190). -/
def execLeax (ix : Indexed) (s : State) : Result := .next (s.leaZ .x ix)

/-- LEAY indexed (R191). -/
def execLeay (ix : Indexed) (s : State) : Result := .next (s.leaZ .y ix)

/-- LEAS indexed (R192). -/
def execLeas (ix : Indexed) (s : State) : Result := .next (s.leaQuiet .s ix)

/-- LEAU indexed (R193). -/
def execLeau (ix : Indexed) (s : State) : Result := .next (s.leaQuiet .u ix)

/-- PSHS (R210). -/
def execPshs (pb : Byte) (s : State) : Result := .next (s.pushList .s pb)

/-- PULS (R212). -/
def execPuls (pb : Byte) (s : State) : Result := .next (s.pullList .s pb)

/-- PSHU (R211). -/
def execPshu (pb : Byte) (s : State) : Result := .next (s.pushList .u pb)

/-- PULU (R213). -/
def execPulu (pb : Byte) (s : State) : Result := .next (s.pullList .u pb)

/-- LDA immediate (R170). -/
def execLdaImm (v : Byte) (s : State) : Result := .next (s.load8 .a (.imm v))

/-- LDA direct (R170). -/
def execLdaDir (lo : Byte) (s : State) : Result := .next (s.load8 .a (.mem (.dir lo)))

/-- LDA indexed (R170). -/
def execLdaIdx (ix : Indexed) (s : State) : Result := .next (s.load8 .a (.mem (.idx ix)))

/-- LDA extended (R170). -/
def execLdaExt (a : Word) (s : State) : Result := .next (s.load8 .a (.mem (.ext a)))

/-- LDX immediate (R173). -/
def execLdxImm (v : Word) (s : State) : Result := .next (s.load16 .x (.imm v))

/-- LDX direct (R173). -/
def execLdxDir (lo : Byte) (s : State) : Result := .next (s.load16 .x (.mem (.dir lo)))

/-- LDX indexed (R173). -/
def execLdxIdx (ix : Indexed) (s : State) : Result := .next (s.load16 .x (.mem (.idx ix)))

/-- LDX extended (R173). -/
def execLdxExt (a : Word) (s : State) : Result := .next (s.load16 .x (.mem (.ext a)))

/-- STA direct (R180). -/
def execStaDir (lo : Byte) (s : State) : Result := .next (s.store8 .a (.dir lo))

/-- STA indexed (R180). -/
def execStaIdx (ix : Indexed) (s : State) : Result := .next (s.store8 .a (.idx ix))

/-- STA extended (R180). -/
def execStaExt (a : Word) (s : State) : Result := .next (s.store8 .a (.ext a))

/-- STX direct (R183). -/
def execStxDir (lo : Byte) (s : State) : Result := .next (s.store16 .x (.dir lo))

/-- STX indexed (R183). -/
def execStxIdx (ix : Indexed) (s : State) : Result := .next (s.store16 .x (.idx ix))

/-- STX extended (R183). -/
def execStxExt (a : Word) (s : State) : Result := .next (s.store16 .x (.ext a))

/-- LDB immediate (R171). -/
def execLdbImm (v : Byte) (s : State) : Result := .next (s.load8 .b (.imm v))

/-- LDB direct (R171). -/
def execLdbDir (lo : Byte) (s : State) : Result := .next (s.load8 .b (.mem (.dir lo)))

/-- LDB indexed (R171). -/
def execLdbIdx (ix : Indexed) (s : State) : Result := .next (s.load8 .b (.mem (.idx ix)))

/-- LDB extended (R171). -/
def execLdbExt (a : Word) (s : State) : Result := .next (s.load8 .b (.mem (.ext a)))

/-- LDD immediate (R172). -/
def execLddImm (v : Word) (s : State) : Result := .next (s.load16 .d (.imm v))

/-- LDD direct (R172). -/
def execLddDir (lo : Byte) (s : State) : Result := .next (s.load16 .d (.mem (.dir lo)))

/-- LDD indexed (R172). -/
def execLddIdx (ix : Indexed) (s : State) : Result := .next (s.load16 .d (.mem (.idx ix)))

/-- LDD extended (R172). -/
def execLddExt (a : Word) (s : State) : Result := .next (s.load16 .d (.mem (.ext a)))

/-- LDU immediate (R175). -/
def execLduImm (v : Word) (s : State) : Result := .next (s.load16 .u (.imm v))

/-- LDU direct (R175). -/
def execLduDir (lo : Byte) (s : State) : Result := .next (s.load16 .u (.mem (.dir lo)))

/-- LDU indexed (R175). -/
def execLduIdx (ix : Indexed) (s : State) : Result := .next (s.load16 .u (.mem (.idx ix)))

/-- LDU extended (R175). -/
def execLduExt (a : Word) (s : State) : Result := .next (s.load16 .u (.mem (.ext a)))

/-- STB direct (R181). -/
def execStbDir (lo : Byte) (s : State) : Result := .next (s.store8 .b (.dir lo))

/-- STB indexed (R181). -/
def execStbIdx (ix : Indexed) (s : State) : Result := .next (s.store8 .b (.idx ix))

/-- STB extended (R181). -/
def execStbExt (a : Word) (s : State) : Result := .next (s.store8 .b (.ext a))

/-- STD direct (R182). -/
def execStdDir (lo : Byte) (s : State) : Result := .next (s.store16 .d (.dir lo))

/-- STD indexed (R182). -/
def execStdIdx (ix : Indexed) (s : State) : Result := .next (s.store16 .d (.idx ix))

/-- STD extended (R182). -/
def execStdExt (a : Word) (s : State) : Result := .next (s.store16 .d (.ext a))

/-- STU direct (R185). -/
def execStuDir (lo : Byte) (s : State) : Result := .next (s.store16 .u (.dir lo))

/-- STU indexed (R185). -/
def execStuIdx (ix : Indexed) (s : State) : Result := .next (s.store16 .u (.idx ix))

/-- STU extended (R185). -/
def execStuExt (a : Word) (s : State) : Result := .next (s.store16 .u (.ext a))

/-- LDY immediate (R174). -/
def execLdyImm (v : Word) (s : State) : Result := .next (s.load16 .y (.imm v))

/-- LDY direct (R174). -/
def execLdyDir (lo : Byte) (s : State) : Result := .next (s.load16 .y (.mem (.dir lo)))

/-- LDY indexed (R174). -/
def execLdyIdx (ix : Indexed) (s : State) : Result := .next (s.load16 .y (.mem (.idx ix)))

/-- LDY extended (R174). -/
def execLdyExt (a : Word) (s : State) : Result := .next (s.load16 .y (.mem (.ext a)))

/-- STY direct (R184). -/
def execStyDir (lo : Byte) (s : State) : Result := .next (s.store16 .y (.dir lo))

/-- STY indexed (R184). -/
def execStyIdx (ix : Indexed) (s : State) : Result := .next (s.store16 .y (.idx ix))

/-- STY extended (R184). -/
def execStyExt (a : Word) (s : State) : Result := .next (s.store16 .y (.ext a))

/-- LDS immediate (R176). -/
def execLdsImm (v : Word) (s : State) : Result := .next (s.load16 .s (.imm v))

/-- LDS direct (R176). -/
def execLdsDir (lo : Byte) (s : State) : Result := .next (s.load16 .s (.mem (.dir lo)))

/-- LDS indexed (R176). -/
def execLdsIdx (ix : Indexed) (s : State) : Result := .next (s.load16 .s (.mem (.idx ix)))

/-- LDS extended (R176). -/
def execLdsExt (a : Word) (s : State) : Result := .next (s.load16 .s (.mem (.ext a)))

/-- STS direct (R186). -/
def execStsDir (lo : Byte) (s : State) : Result := .next (s.store16 .s (.dir lo))

/-- STS indexed (R186). -/
def execStsIdx (ix : Indexed) (s : State) : Result := .next (s.store16 .s (.idx ix))

/-- STS extended (R186). -/
def execStsExt (a : Word) (s : State) : Result := .next (s.store16 .s (.ext a))

end Sys2Proof.Machine
end

