-- ==== Sys2Proof/Machine/Logic.lean ====
section
/-! DEFINITION. Logic, the CC logic, complement, shifts and rotates (spec/42_logic_shift.md).
Each meaning runs with PC already past the instruction (spec/10_state.md R35). -/

namespace Sys2Proof.Machine

/-- COM direct (R320). -/
def execComDir (lo : Byte) (s : State) : Result := .next (s.rmw opCom (.dir lo))

/-- COM indexed (R320). -/
def execComIdx (ix : Indexed) (s : State) : Result := .next (s.rmw opCom (.idx ix))

/-- COM extended (R320). -/
def execComExt (a : Word) (s : State) : Result := .next (s.rmw opCom (.ext a))

/-- LSR direct (R325). -/
def execLsrDir (lo : Byte) (s : State) : Result := .next (s.rmw opLsr (.dir lo))

/-- LSR indexed (R325). -/
def execLsrIdx (ix : Indexed) (s : State) : Result := .next (s.rmw opLsr (.idx ix))

/-- LSR extended (R325). -/
def execLsrExt (a : Word) (s : State) : Result := .next (s.rmw opLsr (.ext a))

/-- ROR direct (R337). -/
def execRorDir (lo : Byte) (s : State) : Result := .next (s.rmw opRor (.dir lo))

/-- ROR indexed (R337). -/
def execRorIdx (ix : Indexed) (s : State) : Result := .next (s.rmw opRor (.idx ix))

/-- ROR extended (R337). -/
def execRorExt (a : Word) (s : State) : Result := .next (s.rmw opRor (.ext a))

/-- ASR direct (R328). -/
def execAsrDir (lo : Byte) (s : State) : Result := .next (s.rmw opAsr (.dir lo))

/-- ASR indexed (R328). -/
def execAsrIdx (ix : Indexed) (s : State) : Result := .next (s.rmw opAsr (.idx ix))

/-- ASR extended (R328). -/
def execAsrExt (a : Word) (s : State) : Result := .next (s.rmw opAsr (.ext a))

/-- LSL/ASL direct (R331). -/
def execLslDir (lo : Byte) (s : State) : Result := .next (s.rmw opAsl (.dir lo))

/-- LSL/ASL indexed (R331). -/
def execLslIdx (ix : Indexed) (s : State) : Result := .next (s.rmw opAsl (.idx ix))

/-- LSL/ASL extended (R331). -/
def execLslExt (a : Word) (s : State) : Result := .next (s.rmw opAsl (.ext a))

/-- ROL direct (R334). -/
def execRolDir (lo : Byte) (s : State) : Result := .next (s.rmw opRol (.dir lo))

/-- ROL indexed (R334). -/
def execRolIdx (ix : Indexed) (s : State) : Result := .next (s.rmw opRol (.idx ix))

/-- ROL extended (R334). -/
def execRolExt (a : Word) (s : State) : Result := .next (s.rmw opRol (.ext a))

/-- ORCC immediate (R314). -/
def execOrcc (v : Byte) (s : State) : Result := .next (s.setCC (s.regs.cc.or (CC.ofByte v)))

/-- ANDCC immediate (R313). -/
def execAndcc (v : Byte) (s : State) : Result := .next (s.setCC (s.regs.cc.and (CC.ofByte v)))

/-- COMA (R321). -/
def execComa (s : State) : Result := .next (s.accUnary opCom .a)

/-- LSRA (R326). -/
def execLsra (s : State) : Result := .next (s.accUnary opLsr .a)

/-- RORA (R338). -/
def execRora (s : State) : Result := .next (s.accUnary opRor .a)

/-- ASRA (R329). -/
def execAsra (s : State) : Result := .next (s.accUnary opAsr .a)

/-- LSLA/ASLA (R332). -/
def execLsla (s : State) : Result := .next (s.accUnary opAsl .a)

/-- ROLA (R335). -/
def execRola (s : State) : Result := .next (s.accUnary opRol .a)

/-- COMB (R322). -/
def execComb (s : State) : Result := .next (s.accUnary opCom .b)

/-- LSRB (R327). -/
def execLsrb (s : State) : Result := .next (s.accUnary opLsr .b)

/-- RORB (R339). -/
def execRorb (s : State) : Result := .next (s.accUnary opRor .b)

/-- ASRB (R330). -/
def execAsrb (s : State) : Result := .next (s.accUnary opAsr .b)

/-- LSLB/ASLB (R333). -/
def execLslb (s : State) : Result := .next (s.accUnary opAsl .b)

/-- ROLB (R336). -/
def execRolb (s : State) : Result := .next (s.accUnary opRol .b)

/-- ANDA immediate (R305). -/
def execAndaImm (v : Byte) (s : State) : Result := .next (s.accOp opAnd .a (.imm v))

/-- ANDA direct (R305). -/
def execAndaDir (lo : Byte) (s : State) : Result := .next (s.accOp opAnd .a (.mem (.dir lo)))

/-- ANDA indexed (R305). -/
def execAndaIdx (ix : Indexed) (s : State) : Result := .next (s.accOp opAnd .a (.mem (.idx ix)))

/-- ANDA extended (R305). -/
def execAndaExt (a : Word) (s : State) : Result := .next (s.accOp opAnd .a (.mem (.ext a)))

/-- BITA immediate (R311). -/
def execBitaImm (v : Byte) (s : State) : Result := .next (s.accTest opAnd .a (.imm v))

/-- BITA direct (R311). -/
def execBitaDir (lo : Byte) (s : State) : Result := .next (s.accTest opAnd .a (.mem (.dir lo)))

/-- BITA indexed (R311). -/
def execBitaIdx (ix : Indexed) (s : State) : Result := .next (s.accTest opAnd .a (.mem (.idx ix)))

/-- BITA extended (R311). -/
def execBitaExt (a : Word) (s : State) : Result := .next (s.accTest opAnd .a (.mem (.ext a)))

/-- EORA immediate (R309). -/
def execEoraImm (v : Byte) (s : State) : Result := .next (s.accOp opEor .a (.imm v))

/-- EORA direct (R309). -/
def execEoraDir (lo : Byte) (s : State) : Result := .next (s.accOp opEor .a (.mem (.dir lo)))

/-- EORA indexed (R309). -/
def execEoraIdx (ix : Indexed) (s : State) : Result := .next (s.accOp opEor .a (.mem (.idx ix)))

/-- EORA extended (R309). -/
def execEoraExt (a : Word) (s : State) : Result := .next (s.accOp opEor .a (.mem (.ext a)))

/-- ORA immediate (R307). -/
def execOraImm (v : Byte) (s : State) : Result := .next (s.accOp opOr .a (.imm v))

/-- ORA direct (R307). -/
def execOraDir (lo : Byte) (s : State) : Result := .next (s.accOp opOr .a (.mem (.dir lo)))

/-- ORA indexed (R307). -/
def execOraIdx (ix : Indexed) (s : State) : Result := .next (s.accOp opOr .a (.mem (.idx ix)))

/-- ORA extended (R307). -/
def execOraExt (a : Word) (s : State) : Result := .next (s.accOp opOr .a (.mem (.ext a)))

/-- ANDB immediate (R306). -/
def execAndbImm (v : Byte) (s : State) : Result := .next (s.accOp opAnd .b (.imm v))

/-- ANDB direct (R306). -/
def execAndbDir (lo : Byte) (s : State) : Result := .next (s.accOp opAnd .b (.mem (.dir lo)))

/-- ANDB indexed (R306). -/
def execAndbIdx (ix : Indexed) (s : State) : Result := .next (s.accOp opAnd .b (.mem (.idx ix)))

/-- ANDB extended (R306). -/
def execAndbExt (a : Word) (s : State) : Result := .next (s.accOp opAnd .b (.mem (.ext a)))

/-- BITB immediate (R312). -/
def execBitbImm (v : Byte) (s : State) : Result := .next (s.accTest opAnd .b (.imm v))

/-- BITB direct (R312). -/
def execBitbDir (lo : Byte) (s : State) : Result := .next (s.accTest opAnd .b (.mem (.dir lo)))

/-- BITB indexed (R312). -/
def execBitbIdx (ix : Indexed) (s : State) : Result := .next (s.accTest opAnd .b (.mem (.idx ix)))

/-- BITB extended (R312). -/
def execBitbExt (a : Word) (s : State) : Result := .next (s.accTest opAnd .b (.mem (.ext a)))

/-- EORB immediate (R310). -/
def execEorbImm (v : Byte) (s : State) : Result := .next (s.accOp opEor .b (.imm v))

/-- EORB direct (R310). -/
def execEorbDir (lo : Byte) (s : State) : Result := .next (s.accOp opEor .b (.mem (.dir lo)))

/-- EORB indexed (R310). -/
def execEorbIdx (ix : Indexed) (s : State) : Result := .next (s.accOp opEor .b (.mem (.idx ix)))

/-- EORB extended (R310). -/
def execEorbExt (a : Word) (s : State) : Result := .next (s.accOp opEor .b (.mem (.ext a)))

/-- ORB immediate (R308). -/
def execOrbImm (v : Byte) (s : State) : Result := .next (s.accOp opOr .b (.imm v))

/-- ORB direct (R308). -/
def execOrbDir (lo : Byte) (s : State) : Result := .next (s.accOp opOr .b (.mem (.dir lo)))

/-- ORB indexed (R308). -/
def execOrbIdx (ix : Indexed) (s : State) : Result := .next (s.accOp opOr .b (.mem (.idx ix)))

/-- ORB extended (R308). -/
def execOrbExt (a : Word) (s : State) : Result := .next (s.accOp opOr .b (.mem (.ext a)))

end Sys2Proof.Machine
end

