-- ==== Sys2Proof/Machine/System.lean ====
section
/-! DEFINITION. NOP, SYNC, CWAI, the software interrupts and RTI (spec/44_system.md).
Each meaning runs with PC already past the instruction (spec/10_state.md R35). -/

namespace Sys2Proof.Machine

/-- NOP (R410). -/
def execNop (s : State) : Result := .next s

/-- SYNC (R412). -/
def execSync (s : State) : Result := .next ({ s with cpuState := .syncing })

/-- RTI (R417). -/
def execRti (s : State) : Result := .next s.returnFromInterrupt

/-- CWAI immediate (R413). -/
def execCwai (v : Byte) (s : State) : Result := .next (s.waitForInterrupt (CC.ofByte v))

/-- SWI (R414). -/
def execSwi (s : State) : Result := .next (s.takeException .swi)

/-- SWI2 (R415). -/
def execSwi2 (s : State) : Result := .next (s.takeException .swi2)

/-- SWI3 (R416). -/
def execSwi3 (s : State) : Result := .next (s.takeException .swi3)

end Sys2Proof.Machine
end

