-- ==== Sys2Proof/Machine/Dispatch.lean ====
section
/-! DEFINITION. The dispatch: one arm per constructor of `Instr`. -/

namespace Sys2Proof.Machine

def exec (i : Instr) (s : State) : Host.Outcome State Fault Refusal :=
  match i with
  | .negDir lo => Sys2Proof.Machine.execNegDir lo s
  | .comDir lo => Sys2Proof.Machine.execComDir lo s
  | .lsrDir lo => Sys2Proof.Machine.execLsrDir lo s
  | .rorDir lo => Sys2Proof.Machine.execRorDir lo s
  | .asrDir lo => Sys2Proof.Machine.execAsrDir lo s
  | .lslDir lo => Sys2Proof.Machine.execLslDir lo s
  | .rolDir lo => Sys2Proof.Machine.execRolDir lo s
  | .decDir lo => Sys2Proof.Machine.execDecDir lo s
  | .incDir lo => Sys2Proof.Machine.execIncDir lo s
  | .tstDir lo => Sys2Proof.Machine.execTstDir lo s
  | .jmpDir lo => Sys2Proof.Machine.execJmpDir lo s
  | .clrDir lo => Sys2Proof.Machine.execClrDir lo s
  | .nop => Sys2Proof.Machine.execNop s
  | .sync => Sys2Proof.Machine.execSync s
  | .lbra off => Sys2Proof.Machine.execLbra off s
  | .lbsr off => Sys2Proof.Machine.execLbsr off s
  | .daa => Sys2Proof.Machine.execDaa s
  | .orcc v => Sys2Proof.Machine.execOrcc v s
  | .andcc v => Sys2Proof.Machine.execAndcc v s
  | .sex => Sys2Proof.Machine.execSex s
  | .exg src dst => Sys2Proof.Machine.execExg src dst s
  | .tfr src dst => Sys2Proof.Machine.execTfr src dst s
  | .bra off => Sys2Proof.Machine.execBra off s
  | .brn off => Sys2Proof.Machine.execBrn off s
  | .bhi off => Sys2Proof.Machine.execBhi off s
  | .bls off => Sys2Proof.Machine.execBls off s
  | .bhs off => Sys2Proof.Machine.execBhs off s
  | .blo off => Sys2Proof.Machine.execBlo off s
  | .bne off => Sys2Proof.Machine.execBne off s
  | .beq off => Sys2Proof.Machine.execBeq off s
  | .bvc off => Sys2Proof.Machine.execBvc off s
  | .bvs off => Sys2Proof.Machine.execBvs off s
  | .bpl off => Sys2Proof.Machine.execBpl off s
  | .bmi off => Sys2Proof.Machine.execBmi off s
  | .bge off => Sys2Proof.Machine.execBge off s
  | .blt off => Sys2Proof.Machine.execBlt off s
  | .bgt off => Sys2Proof.Machine.execBgt off s
  | .ble off => Sys2Proof.Machine.execBle off s
  | .leax ix => Sys2Proof.Machine.execLeax ix s
  | .leay ix => Sys2Proof.Machine.execLeay ix s
  | .leas ix => Sys2Proof.Machine.execLeas ix s
  | .leau ix => Sys2Proof.Machine.execLeau ix s
  | .pshs pb => Sys2Proof.Machine.execPshs pb s
  | .puls pb => Sys2Proof.Machine.execPuls pb s
  | .pshu pb => Sys2Proof.Machine.execPshu pb s
  | .pulu pb => Sys2Proof.Machine.execPulu pb s
  | .rts => Sys2Proof.Machine.execRts s
  | .abx => Sys2Proof.Machine.execAbx s
  | .rti => Sys2Proof.Machine.execRti s
  | .cwai v => Sys2Proof.Machine.execCwai v s
  | .mul => Sys2Proof.Machine.execMul s
  | .swi => Sys2Proof.Machine.execSwi s
  | .nega => Sys2Proof.Machine.execNega s
  | .coma => Sys2Proof.Machine.execComa s
  | .lsra => Sys2Proof.Machine.execLsra s
  | .rora => Sys2Proof.Machine.execRora s
  | .asra => Sys2Proof.Machine.execAsra s
  | .lsla => Sys2Proof.Machine.execLsla s
  | .rola => Sys2Proof.Machine.execRola s
  | .deca => Sys2Proof.Machine.execDeca s
  | .inca => Sys2Proof.Machine.execInca s
  | .tsta => Sys2Proof.Machine.execTsta s
  | .clra => Sys2Proof.Machine.execClra s
  | .negb => Sys2Proof.Machine.execNegb s
  | .comb => Sys2Proof.Machine.execComb s
  | .lsrb => Sys2Proof.Machine.execLsrb s
  | .rorb => Sys2Proof.Machine.execRorb s
  | .asrb => Sys2Proof.Machine.execAsrb s
  | .lslb => Sys2Proof.Machine.execLslb s
  | .rolb => Sys2Proof.Machine.execRolb s
  | .decb => Sys2Proof.Machine.execDecb s
  | .incb => Sys2Proof.Machine.execIncb s
  | .tstb => Sys2Proof.Machine.execTstb s
  | .clrb => Sys2Proof.Machine.execClrb s
  | .negIdx ix => Sys2Proof.Machine.execNegIdx ix s
  | .comIdx ix => Sys2Proof.Machine.execComIdx ix s
  | .lsrIdx ix => Sys2Proof.Machine.execLsrIdx ix s
  | .rorIdx ix => Sys2Proof.Machine.execRorIdx ix s
  | .asrIdx ix => Sys2Proof.Machine.execAsrIdx ix s
  | .lslIdx ix => Sys2Proof.Machine.execLslIdx ix s
  | .rolIdx ix => Sys2Proof.Machine.execRolIdx ix s
  | .decIdx ix => Sys2Proof.Machine.execDecIdx ix s
  | .incIdx ix => Sys2Proof.Machine.execIncIdx ix s
  | .tstIdx ix => Sys2Proof.Machine.execTstIdx ix s
  | .jmpIdx ix => Sys2Proof.Machine.execJmpIdx ix s
  | .clrIdx ix => Sys2Proof.Machine.execClrIdx ix s
  | .negExt a => Sys2Proof.Machine.execNegExt a s
  | .comExt a => Sys2Proof.Machine.execComExt a s
  | .lsrExt a => Sys2Proof.Machine.execLsrExt a s
  | .rorExt a => Sys2Proof.Machine.execRorExt a s
  | .asrExt a => Sys2Proof.Machine.execAsrExt a s
  | .lslExt a => Sys2Proof.Machine.execLslExt a s
  | .rolExt a => Sys2Proof.Machine.execRolExt a s
  | .decExt a => Sys2Proof.Machine.execDecExt a s
  | .incExt a => Sys2Proof.Machine.execIncExt a s
  | .tstExt a => Sys2Proof.Machine.execTstExt a s
  | .jmpExt a => Sys2Proof.Machine.execJmpExt a s
  | .clrExt a => Sys2Proof.Machine.execClrExt a s
  | .subaImm v => Sys2Proof.Machine.execSubaImm v s
  | .cmpaImm v => Sys2Proof.Machine.execCmpaImm v s
  | .sbcaImm v => Sys2Proof.Machine.execSbcaImm v s
  | .subdImm v => Sys2Proof.Machine.execSubdImm v s
  | .andaImm v => Sys2Proof.Machine.execAndaImm v s
  | .bitaImm v => Sys2Proof.Machine.execBitaImm v s
  | .ldaImm v => Sys2Proof.Machine.execLdaImm v s
  | .eoraImm v => Sys2Proof.Machine.execEoraImm v s
  | .adcaImm v => Sys2Proof.Machine.execAdcaImm v s
  | .oraImm v => Sys2Proof.Machine.execOraImm v s
  | .addaImm v => Sys2Proof.Machine.execAddaImm v s
  | .cmpxImm v => Sys2Proof.Machine.execCmpxImm v s
  | .bsr off => Sys2Proof.Machine.execBsr off s
  | .ldxImm v => Sys2Proof.Machine.execLdxImm v s
  | .subaDir lo => Sys2Proof.Machine.execSubaDir lo s
  | .cmpaDir lo => Sys2Proof.Machine.execCmpaDir lo s
  | .sbcaDir lo => Sys2Proof.Machine.execSbcaDir lo s
  | .subdDir lo => Sys2Proof.Machine.execSubdDir lo s
  | .andaDir lo => Sys2Proof.Machine.execAndaDir lo s
  | .bitaDir lo => Sys2Proof.Machine.execBitaDir lo s
  | .ldaDir lo => Sys2Proof.Machine.execLdaDir lo s
  | .staDir lo => Sys2Proof.Machine.execStaDir lo s
  | .eoraDir lo => Sys2Proof.Machine.execEoraDir lo s
  | .adcaDir lo => Sys2Proof.Machine.execAdcaDir lo s
  | .oraDir lo => Sys2Proof.Machine.execOraDir lo s
  | .addaDir lo => Sys2Proof.Machine.execAddaDir lo s
  | .cmpxDir lo => Sys2Proof.Machine.execCmpxDir lo s
  | .jsrDir lo => Sys2Proof.Machine.execJsrDir lo s
  | .ldxDir lo => Sys2Proof.Machine.execLdxDir lo s
  | .stxDir lo => Sys2Proof.Machine.execStxDir lo s
  | .subaIdx ix => Sys2Proof.Machine.execSubaIdx ix s
  | .cmpaIdx ix => Sys2Proof.Machine.execCmpaIdx ix s
  | .sbcaIdx ix => Sys2Proof.Machine.execSbcaIdx ix s
  | .subdIdx ix => Sys2Proof.Machine.execSubdIdx ix s
  | .andaIdx ix => Sys2Proof.Machine.execAndaIdx ix s
  | .bitaIdx ix => Sys2Proof.Machine.execBitaIdx ix s
  | .ldaIdx ix => Sys2Proof.Machine.execLdaIdx ix s
  | .staIdx ix => Sys2Proof.Machine.execStaIdx ix s
  | .eoraIdx ix => Sys2Proof.Machine.execEoraIdx ix s
  | .adcaIdx ix => Sys2Proof.Machine.execAdcaIdx ix s
  | .oraIdx ix => Sys2Proof.Machine.execOraIdx ix s
  | .addaIdx ix => Sys2Proof.Machine.execAddaIdx ix s
  | .cmpxIdx ix => Sys2Proof.Machine.execCmpxIdx ix s
  | .jsrIdx ix => Sys2Proof.Machine.execJsrIdx ix s
  | .ldxIdx ix => Sys2Proof.Machine.execLdxIdx ix s
  | .stxIdx ix => Sys2Proof.Machine.execStxIdx ix s
  | .subaExt a => Sys2Proof.Machine.execSubaExt a s
  | .cmpaExt a => Sys2Proof.Machine.execCmpaExt a s
  | .sbcaExt a => Sys2Proof.Machine.execSbcaExt a s
  | .subdExt a => Sys2Proof.Machine.execSubdExt a s
  | .andaExt a => Sys2Proof.Machine.execAndaExt a s
  | .bitaExt a => Sys2Proof.Machine.execBitaExt a s
  | .ldaExt a => Sys2Proof.Machine.execLdaExt a s
  | .staExt a => Sys2Proof.Machine.execStaExt a s
  | .eoraExt a => Sys2Proof.Machine.execEoraExt a s
  | .adcaExt a => Sys2Proof.Machine.execAdcaExt a s
  | .oraExt a => Sys2Proof.Machine.execOraExt a s
  | .addaExt a => Sys2Proof.Machine.execAddaExt a s
  | .cmpxExt a => Sys2Proof.Machine.execCmpxExt a s
  | .jsrExt a => Sys2Proof.Machine.execJsrExt a s
  | .ldxExt a => Sys2Proof.Machine.execLdxExt a s
  | .stxExt a => Sys2Proof.Machine.execStxExt a s
  | .subbImm v => Sys2Proof.Machine.execSubbImm v s
  | .cmpbImm v => Sys2Proof.Machine.execCmpbImm v s
  | .sbcbImm v => Sys2Proof.Machine.execSbcbImm v s
  | .adddImm v => Sys2Proof.Machine.execAdddImm v s
  | .andbImm v => Sys2Proof.Machine.execAndbImm v s
  | .bitbImm v => Sys2Proof.Machine.execBitbImm v s
  | .ldbImm v => Sys2Proof.Machine.execLdbImm v s
  | .eorbImm v => Sys2Proof.Machine.execEorbImm v s
  | .adcbImm v => Sys2Proof.Machine.execAdcbImm v s
  | .orbImm v => Sys2Proof.Machine.execOrbImm v s
  | .addbImm v => Sys2Proof.Machine.execAddbImm v s
  | .lddImm v => Sys2Proof.Machine.execLddImm v s
  | .lduImm v => Sys2Proof.Machine.execLduImm v s
  | .subbDir lo => Sys2Proof.Machine.execSubbDir lo s
  | .cmpbDir lo => Sys2Proof.Machine.execCmpbDir lo s
  | .sbcbDir lo => Sys2Proof.Machine.execSbcbDir lo s
  | .adddDir lo => Sys2Proof.Machine.execAdddDir lo s
  | .andbDir lo => Sys2Proof.Machine.execAndbDir lo s
  | .bitbDir lo => Sys2Proof.Machine.execBitbDir lo s
  | .ldbDir lo => Sys2Proof.Machine.execLdbDir lo s
  | .stbDir lo => Sys2Proof.Machine.execStbDir lo s
  | .eorbDir lo => Sys2Proof.Machine.execEorbDir lo s
  | .adcbDir lo => Sys2Proof.Machine.execAdcbDir lo s
  | .orbDir lo => Sys2Proof.Machine.execOrbDir lo s
  | .addbDir lo => Sys2Proof.Machine.execAddbDir lo s
  | .lddDir lo => Sys2Proof.Machine.execLddDir lo s
  | .stdDir lo => Sys2Proof.Machine.execStdDir lo s
  | .lduDir lo => Sys2Proof.Machine.execLduDir lo s
  | .stuDir lo => Sys2Proof.Machine.execStuDir lo s
  | .subbIdx ix => Sys2Proof.Machine.execSubbIdx ix s
  | .cmpbIdx ix => Sys2Proof.Machine.execCmpbIdx ix s
  | .sbcbIdx ix => Sys2Proof.Machine.execSbcbIdx ix s
  | .adddIdx ix => Sys2Proof.Machine.execAdddIdx ix s
  | .andbIdx ix => Sys2Proof.Machine.execAndbIdx ix s
  | .bitbIdx ix => Sys2Proof.Machine.execBitbIdx ix s
  | .ldbIdx ix => Sys2Proof.Machine.execLdbIdx ix s
  | .stbIdx ix => Sys2Proof.Machine.execStbIdx ix s
  | .eorbIdx ix => Sys2Proof.Machine.execEorbIdx ix s
  | .adcbIdx ix => Sys2Proof.Machine.execAdcbIdx ix s
  | .orbIdx ix => Sys2Proof.Machine.execOrbIdx ix s
  | .addbIdx ix => Sys2Proof.Machine.execAddbIdx ix s
  | .lddIdx ix => Sys2Proof.Machine.execLddIdx ix s
  | .stdIdx ix => Sys2Proof.Machine.execStdIdx ix s
  | .lduIdx ix => Sys2Proof.Machine.execLduIdx ix s
  | .stuIdx ix => Sys2Proof.Machine.execStuIdx ix s
  | .subbExt a => Sys2Proof.Machine.execSubbExt a s
  | .cmpbExt a => Sys2Proof.Machine.execCmpbExt a s
  | .sbcbExt a => Sys2Proof.Machine.execSbcbExt a s
  | .adddExt a => Sys2Proof.Machine.execAdddExt a s
  | .andbExt a => Sys2Proof.Machine.execAndbExt a s
  | .bitbExt a => Sys2Proof.Machine.execBitbExt a s
  | .ldbExt a => Sys2Proof.Machine.execLdbExt a s
  | .stbExt a => Sys2Proof.Machine.execStbExt a s
  | .eorbExt a => Sys2Proof.Machine.execEorbExt a s
  | .adcbExt a => Sys2Proof.Machine.execAdcbExt a s
  | .orbExt a => Sys2Proof.Machine.execOrbExt a s
  | .addbExt a => Sys2Proof.Machine.execAddbExt a s
  | .lddExt a => Sys2Proof.Machine.execLddExt a s
  | .stdExt a => Sys2Proof.Machine.execStdExt a s
  | .lduExt a => Sys2Proof.Machine.execLduExt a s
  | .stuExt a => Sys2Proof.Machine.execStuExt a s
  | .lbrn off => Sys2Proof.Machine.execLbrn off s
  | .lbhi off => Sys2Proof.Machine.execLbhi off s
  | .lbls off => Sys2Proof.Machine.execLbls off s
  | .lbhs off => Sys2Proof.Machine.execLbhs off s
  | .lblo off => Sys2Proof.Machine.execLblo off s
  | .lbne off => Sys2Proof.Machine.execLbne off s
  | .lbeq off => Sys2Proof.Machine.execLbeq off s
  | .lbvc off => Sys2Proof.Machine.execLbvc off s
  | .lbvs off => Sys2Proof.Machine.execLbvs off s
  | .lbpl off => Sys2Proof.Machine.execLbpl off s
  | .lbmi off => Sys2Proof.Machine.execLbmi off s
  | .lbge off => Sys2Proof.Machine.execLbge off s
  | .lblt off => Sys2Proof.Machine.execLblt off s
  | .lbgt off => Sys2Proof.Machine.execLbgt off s
  | .lble off => Sys2Proof.Machine.execLble off s
  | .swi2 => Sys2Proof.Machine.execSwi2 s
  | .cmpdImm v => Sys2Proof.Machine.execCmpdImm v s
  | .cmpyImm v => Sys2Proof.Machine.execCmpyImm v s
  | .ldyImm v => Sys2Proof.Machine.execLdyImm v s
  | .cmpdDir lo => Sys2Proof.Machine.execCmpdDir lo s
  | .cmpyDir lo => Sys2Proof.Machine.execCmpyDir lo s
  | .ldyDir lo => Sys2Proof.Machine.execLdyDir lo s
  | .styDir lo => Sys2Proof.Machine.execStyDir lo s
  | .cmpdIdx ix => Sys2Proof.Machine.execCmpdIdx ix s
  | .cmpyIdx ix => Sys2Proof.Machine.execCmpyIdx ix s
  | .ldyIdx ix => Sys2Proof.Machine.execLdyIdx ix s
  | .styIdx ix => Sys2Proof.Machine.execStyIdx ix s
  | .cmpdExt a => Sys2Proof.Machine.execCmpdExt a s
  | .cmpyExt a => Sys2Proof.Machine.execCmpyExt a s
  | .ldyExt a => Sys2Proof.Machine.execLdyExt a s
  | .styExt a => Sys2Proof.Machine.execStyExt a s
  | .ldsImm v => Sys2Proof.Machine.execLdsImm v s
  | .ldsDir lo => Sys2Proof.Machine.execLdsDir lo s
  | .stsDir lo => Sys2Proof.Machine.execStsDir lo s
  | .ldsIdx ix => Sys2Proof.Machine.execLdsIdx ix s
  | .stsIdx ix => Sys2Proof.Machine.execStsIdx ix s
  | .ldsExt a => Sys2Proof.Machine.execLdsExt a s
  | .stsExt a => Sys2Proof.Machine.execStsExt a s
  | .swi3 => Sys2Proof.Machine.execSwi3 s
  | .cmpuImm v => Sys2Proof.Machine.execCmpuImm v s
  | .cmpsImm v => Sys2Proof.Machine.execCmpsImm v s
  | .cmpuDir lo => Sys2Proof.Machine.execCmpuDir lo s
  | .cmpsDir lo => Sys2Proof.Machine.execCmpsDir lo s
  | .cmpuIdx ix => Sys2Proof.Machine.execCmpuIdx ix s
  | .cmpsIdx ix => Sys2Proof.Machine.execCmpsIdx ix s
  | .cmpuExt a => Sys2Proof.Machine.execCmpuExt a s
  | .cmpsExt a => Sys2Proof.Machine.execCmpsExt a s

end Sys2Proof.Machine
end

