-- ==== Sys2Proof/Machine/Reset.lean ====
section
/-! DEFINITION. Reset, the init phase and ROM loading (spec/70_reset_and_hazards.md R670 to R682). -/

namespace Sys2Proof.Machine

/-- The kinds of reset (R670). -/
inductive ResetKind where
  | warm | cold
deriving DecidableEq, Repr

/-- Steps 1 to 3 of R670: the PIAs, the disk controller and the tape trap. -/
def Devices.resetPeripherals (d : Devices) : Devices :=
  { d with pia0 := .reset, pia1 := .reset, disk := .reset, tape := .reset }

/-- Step 5 of R670 for a cold reset: DP is 0 and the rest is drawn. -/
def Regs.cold (k : ColdDraw) (r : Regs) : Regs :=
  { a := k.a, b := k.b, dp := 0x00, x := k.x, y := k.y, u := k.u, s := k.s, pc := r.pc
    cc := { r.cc with e := k.e, h := k.h, n := k.n, z := k.z, v := k.v, c := k.c } }

/-- Step 5 of R670 by the kind of reset. -/
def State.resetRegs (kind : ResetKind) (s : State) : State :=
  match kind with
  | .warm => s
  | .cold =>
    let d := s.draw
    d.2.mapRegs (Regs.cold (Config.coldDraw d.1))

/-- Steps 1 to 6 of R670. -/
def State.resetCore (kind : ResetKind) (s : State) : State :=
  let s := s.mapDev Devices.resetPeripherals
  let s := { s with lines := ⟨false, false, false, false⟩ }
  let s := s.resetRegs kind
  let s := s.setCC { s.regs.cc with i := true, f := true }
  { s with cpuState := .running, exe := { s.exe with suspended := false, resetPressedAt := none } }

/-- `Reset(kind)` (R670): the vector last. -/
def State.executiveReset (kind : ResetKind) (s : State) : State :=
  let s := s.resetCore kind
  let v := s.readWord 0xFFFE
  v.2.setPC v.1

/-- Load a cartridge image: to 0xC000, bytes beyond 0xFEFF discarded, and the EXEC vector (R681). DESIGN CHOICE (log 37):
the vector is stored as the image is, by `load`, so that no tape-trap handler runs where 0x009D or 0x009E is a trap cell. -/
def State.loadCartridge (bytes : List Byte) (s : State) : State :=
  (s.load 0xC000 (bytes.take 0x3F00)).load 0x009D [0xC0, 0x00]

/-- Load a BASIC image: to 0x8000–0xBFFF (R681). -/
def State.loadBasic (bytes : List Byte) (s : State) : State := s.load 0x8000 (bytes.take 0x4000)

/-- Load an image to the DOS ROM window (R681), at 0x8000 + `offset`, bytes beyond 0xFEFF discarded. DESIGN CHOICE (log 35):
the spec gives no address of that window, so the loader names any place of the ROM region. -/
def State.loadDos (offset : Nat) (bytes : List Byte) (s : State) : State :=
  s.load (BitVec.ofNat 16 (0x8000 + offset)) (bytes.take (0x7F00 - offset))

/-- Load a cartridge where there is one. -/
def State.loadOptionalCartridge (cartridge : Option (List Byte)) (s : State) : State :=
  match cartridge with
  | some bytes => s.loadCartridge bytes
  | none => s

/-- The parameters of R10 that the init phase reads. The images are lists from 0x0000, 0x8000 and 0xFFF0 on; a byte
beyond a list is 0x00. `rom` is ROM_IMAGE but for a cartridge loaded at init (R681; log 36); the two clock readings are the
two draws of spec/65_executive.md R651. -/
structure InitParams where
  ram : List Byte
  rom : List Byte
  vectors : List Byte
  cartridge : Option (List Byte)
  traps : List Nat
  stackOffset : Word
  image : DiskImage
  latchLayout : LatchLayout
  nowRefresh : BitVec 32
  nowTick : BitVec 32
deriving DecidableEq, Repr

/-- Step 6 of R680 as seen by the machine: the vector read of a cold reset. -/
def State.toVector (s : State) : State :=
  let v := s.readWord 0xFFFE
  v.2.setPC v.1

/-- The init phase and the power-on reset (R674, R680, R651), with the register values of log 1 for COLD_DRAW. DESIGN CHOICE
(log 36): a cartridge loaded at init sets the EXEC vector after RAM_INIT and ROM_IMAGE are in place; without a cartridge
0x009D and 0x009E hold RAM_INIT, whatever ROM_IMAGE has from 0xC000 on.
`State.reset` is `powerOn` of empty images (Laws/Reset.lean). -/
def powerOn (p : InitParams) : State :=
  let s := { State.reset with
    tags := initTags p.traps
    dev := { State.reset.dev with
      image := p.image, vdk := p.image.header, tapeStackOffset := p.stackOffset, latchLayout := p.latchLayout }
    exe := { State.reset.exe with lastRefreshUs := p.nowRefresh, lastTickUs := p.nowTick } }
  let s := ((s.load 0x0000 (p.ram.take 0x8000)).load 0x8000 (p.rom.take 0x7F00)).load 0xFFF0 (p.vectors.take 16)
  (s.loadOptionalCartridge p.cartridge).toVector

end Sys2Proof.Machine
end

