-- ==== Sys2Proof/Machine/Vdg.lean ====
section
/-! DEFINITION. The SAM's outputs and the VDG's render (spec/62_sam_vdg.md R533 to R550). -/

namespace Sys2Proof.Machine

/-! ### The SAM's outputs -/

/-- `video_mode` = V2 V1 V0 (R533). -/
def videoMode (sam : BitVec 16) : Nat := (sam.extractLsb' 0 3).toNat

/-- `video_ram_offset` = F5 … F0; F6 does not enter it (R533). -/
def videoRamOffset (sam : BitVec 16) : Nat := (sam.extractLsb' 3 6).toNat

/-- The base address of the video window (R538). -/
def videoBase (sam : BitVec 16) : Nat := 512 * videoRamOffset sam

/-! ### Mode selection -/

/-- `current_mode` (R540): a semigraphic mode SG8, SG12, SG24 by its sub-cells per cell (2, 3, 6), a graphics mode by
its GM field. -/
inductive VdgMode where
  | alphaInt
  | alphaExt
  | semi (n : Nat)
  | graphics (gm : Nat)
  | uncovered
  | dma
deriving DecidableEq, Repr

/-- The mode table of R540, from `video_mode` and `pia_video_mode`. -/
def currentMode (vm : Nat) (pm : Byte) : VdgMode :=
  if vm = 7 then .dma
  else if bit pm 7 then
    (if vm = 0 then .uncovered else .graphics (pm.extractLsb' 4 3).toNat)
  else
    match vm with
    | 0 => if bit pm 4 then .alphaExt else .alphaInt
    | 2 => .semi 2
    | 4 => .semi 3
    | 6 => .semi 6
    | _ => .uncovered

/-! ### Pixels -/

/-- `COLOUR(i)` (R539). -/
def colour (i : Nat) : VdgColor :=
  match i with
  | 0 => .green
  | 1 => .yellow
  | 2 => .blue
  | 3 => .red
  | 4 => .buff
  | 5 => .cyan
  | 6 => .magenta
  | _ => .orange

/-- The pixel colour when on, else black. -/
def litOr (on : Bool) (c : VdgColor) : VdgColor := if on then c else .black

/-- A text pixel of byte `b` at cell line `ly`, column `lx` (R542). -/
def textPixel (css : Bool) (b : Byte) (ly lx : Nat) : VdgColor :=
  let on := bit (Config.font (b.extractLsb' 0 6) ly) (7 - lx)
  litOr (on ^^ bit b 6) (if css then .orange else .green)

/-- The SG4 pattern of `b` at element row `ey`, column `lx` (R543). -/
def sg4Pixel (b : Byte) (ey lx : Nat) : VdgColor :=
  litOr (bit b (3 - (2 * ey + lx / 4))) (colour (b.extractLsb' 4 3).toNat)

/-- An SG6 pixel (R544). -/
def sg6Pixel (css : Bool) (b : Byte) (ly lx : Nat) : VdgColor :=
  litOr (bit b (5 - (2 * (ly / 4) + lx / 4))) (colour ((if css then 4 else 0) + (b.extractLsb' 6 2).toNat))

/-- The width in bits per pixel, the bytes per row, the horizontal and the vertical replication of a graphics mode
(R546). -/
structure GraphicsRatio where
  bpp : Nat
  rowBytes : Nat
  hrep : Nat
  vrep : Nat
deriving DecidableEq, Repr

/-- The ratio table of R546. -/
def graphicsRatio (gm : Nat) : GraphicsRatio :=
  match gm with
  | 0 => ⟨2, 16, 4, 3⟩
  | 1 => ⟨1, 16, 2, 3⟩
  | 2 => ⟨2, 32, 2, 3⟩
  | 3 => ⟨1, 16, 2, 2⟩
  | 4 => ⟨2, 32, 2, 2⟩
  | 5 => ⟨1, 16, 2, 1⟩
  | 6 => ⟨2, 32, 2, 1⟩
  | _ => ⟨1, 32, 1, 1⟩

/-- A graphics pixel of byte `b` at the mode's column `mx` (R547, R548). -/
def graphicsPixel (css : Bool) (bpp : Nat) (b : Byte) (mx : Nat) : VdgColor :=
  if bpp = 1 then litOr (bit b (7 - mx % 8)) (if css then .buff else .green)
  else colour ((if css then 4 else 0) + (b >>> (6 - 2 * (mx % 4))).toNat % 4)

/-- The colour of pixel (y, x), for a mode that has a rendering rule (R542 to R548). `mem i` is the byte at
`base + i`. -/
def pixel (mode : VdgMode) (css : Bool) (mem : Nat → Byte) (y x : Nat) : VdgColor :=
  let row := y / 12
  let ly := y % 12
  let col := x / 8
  let lx := x % 8
  match mode with
  | .alphaInt =>
    let b := mem (row * 32 + col)
    if bit b 7 then sg4Pixel b (ly / 6) lx else textPixel css b ly lx
  | .alphaExt =>
    let b := mem (row * 32 + col)
    if bit b 7 then sg6Pixel css b ly lx else textPixel css b ly lx
  | .semi n =>
    let h := 12 / n
    let b := mem ((row * n + ly / h) * 32 + col)
    if bit b 7 then sg4Pixel b (ly % h / (h / 2)) lx else textPixel css b ly lx
  | .graphics gm =>
    let g := graphicsRatio gm
    let mx := x / g.hrep
    graphicsPixel css g.bpp (mem (y / g.vrep * g.rowBytes + mx * g.bpp / 8)) mx
  | .uncovered => .black
  | .dma => .black

/-- The place of a VDG colour in the order of R539, black last. -/
def colourPlace (c : VdgColor) : Fin 16 :=
  match c with
  | .green => 0
  | .yellow => 1
  | .blue => 2
  | .red => 3
  | .buff => 4
  | .cyan => 5
  | .magenta => 6
  | .orange => 7
  | .black => 8

/-- `PALETTE(c)`, an index into the host's sixteen colours (R541; log 8). -/
def palette (c : VdgColor) : Byte := BitVec.ofNat 8 (Config.paletteOrder (colourPlace c)).val

/-! ### The render -/

/-- The byte of the video window at `base + i` (R538; log 22). -/
def State.videoByte (s : State) (i : Nat) : Byte := Memory.read s.mem (videoBase s.dev.sam + i)

/-- The frame bytes of a mode with a rendering rule, 256 to a line (R541, R549). -/
def State.renderBytes (mode : VdgMode) (s : State) : List Byte :=
  (List.range (192 * 256)).map fun i =>
    palette (pixel mode (bit s.dev.piaVideoMode 3) s.videoByte (i / 256) (i % 256))

/-- Replace the frame buffer. -/
def State.setFrame (f : Frame) (s : State) : State := { s with dev := { s.dev with frame := f } }

/-- A frame that is a host draw (R550). DESIGN CHOICE (log 40): every render in such a mode makes a draw of its own, so that
the idempotence of R549 is kept for the modes with a rendering rule only. -/
def State.drawFrame (s : State) : State :=
  let d := s.draw
  d.2.setFrame (.hostDraw d.1)

/-- `render()` (R549, R550). -/
def State.render (s : State) : State :=
  match currentMode (videoMode s.dev.sam) s.dev.piaVideoMode with
  | .uncovered => s.drawFrame
  | .dma =>
    if Config.dmaFatal then { s with exe := { s.exe with fatal := some .vdgDmaMode } } else s.drawFrame
  | .alphaInt => s.setFrame (.rendered (s.renderBytes .alphaInt))
  | .alphaExt => s.setFrame (.rendered (s.renderBytes .alphaExt))
  | .semi n => s.setFrame (.rendered (s.renderBytes (.semi n)))
  | .graphics gm => s.setFrame (.rendered (s.renderBytes (.graphics gm)))

end Sys2Proof.Machine
end

