-- ==== Sys2Proof/Machine/Executive.lean ====
section
/-! DEFINITION. The executive loop around the CPU step (spec/65_executive.md). -/

namespace Sys2Proof.Machine

/-- Change the executive's state. -/
def State.mapExe (f : Executive → Executive) (s : State) : State := { s with exe := f s.exe }

/-- `FatalHalt` (R657, spec/60_exceptions.md R434): the diagnostic, the host's `halt()`, and the absorbing state. -/
def State.fatalHalt (code : FatalCode) (s : State) : State :=
  ((s.call (.diagnostic code s.lastPc s.lastOpcodeBytes)).call .halt).mapExe fun e => { e with halted := some code }

/-- The code of the fatal event that step 1 of R655 finds, if there is one. IllegalOpcode stands first (log 28). -/
def State.fatalCode (s : State) : Option FatalCode :=
  if s.cpuState = .exception then some .illegalOpcode else s.exe.fatal

/-! ### The polls of an iteration -/

/-- `PollReset` (R656) with the answers `b` of `reset_button()` and `now` of `now_us()`. -/
def State.pollReset (b : Bool) (now : BitVec 32) (s : State) : State :=
  match s.exe.resetPressedAt with
  | none => if b then s else s.mapExe fun e => { e with resetPressedAt := some now }
  | some t0 =>
    if b then
      let s := s.mapExe fun e => { e with resetPressedAt := none }
      if 1500000 ≤ (now - t0).toNat then (s.writeByte 0x0071 0x00).executiveReset .cold
      else s.executiveReset .warm
    else s

/-- Step 3 of R655: at most one disk tick. -/
def State.pollTick (now : BitVec 32) (s : State) : State :=
  if 1000 ≤ (now - s.exe.lastTickUs).toNat then (s.mapExe fun e => { e with lastTickUs := now }).diskTick else s

/-- The effect of a scan code (spec/61_pia.md R494). -/
def Devices.scan (sc : Byte) (d : Devices) : Devices :=
  if sc = 0x00#8 then d
  else if sc = 0x3B#8 then { d with fnKey := .loaderEscape }
  else { d with kbd := Config.keymap sc d.kbd }

/-- `Suspend` (R658); when already suspended it changes `fn_key` only. -/
def State.suspend (s : State) : State :=
  let t := s.mapDev fun d => { d with fnKey := .none }
  if s.exe.suspended then t
  else { t with cpuState := .halted, exe := { s.exe with resumeState := s.cpuState, suspended := true } }

/-- Step 4 of R655. -/
def State.pollKeyboard (sc : Byte) (s : State) : State :=
  let s := s.mapDev (Devices.scan sc)
  if s.dev.fnKey = .loaderEscape then s.suspend else s

/-- Step 5 of R655. -/
def State.pollCartridge (edge : Bool) (s : State) : State := if edge then s.cb1Event .pia1 else s

/-- Step 6 of R655: the render, then the vertical sync unless the render was fatal. -/
def State.pollFrame (now : BitVec 32) (s : State) : State :=
  if 20000 ≤ (now - s.exe.lastRefreshUs).toNat then
    let s := (s.mapExe fun e => { e with lastRefreshUs := now }).render
    match s.exe.fatal with
    | some code => s.fatalHalt code
    | none => s.cb1Event .pia0
  else s

/-! ### The loader (R658) -/

/-- One effect of the loader. -/
def State.loaderEvent (ev : LoaderEvent) (s : State) : State :=
  match ev with
  | .mountImage kind rawSides bytes => s.mapDev (Devices.mount (DiskImage.ofBytes kind rawSides bytes))
  | .loadCartridge bytes => s.loadCartridge bytes
  | .loadBasic bytes => s.loadBasic bytes
  | .loadDos offset bytes => s.loadDos offset bytes
  | .resume => { s with cpuState := s.exe.resumeState, exe := { s.exe with suspended := false } }

/-- The loader's effects between two iterations, as far as the machine is suspended and not halted (log 20). -/
def State.runLoader (evs : List LoaderEvent) (s : State) : State :=
  match evs with
  | [] => s
  | ev :: rest => if s.exe.suspended && s.exe.halted.isNone then (s.loaderEvent ev).runLoader rest else s

/-! ### An iteration after its CPU step -/

/-- Steps 2 to 6 of R655 with the host's answers, then the loader. -/
def State.poll (h : HostAnswers) (s : State) : State :=
  let s := s.pollReset h.resetButton h.nowReset
  let s := s.pollTick h.nowTick
  let s := s.pollKeyboard h.scanCode
  let s := s.pollCartridge h.cartridgeEdge
  let s := s.pollFrame h.nowFrame
  s.runLoader h.loader

/-- The iteration after step 1: the fatal check, then the polls. With no answers left the host presents no event
(log 5). -/
def State.finishIteration (s : State) : State :=
  match s.fatalCode with
  | some code => s.fatalHalt code
  | none =>
    match s.host.answers with
    | [] => s
    | h :: rest => State.poll h { s with host := { s.host with answers := rest } }

end Sys2Proof.Machine
end

