-- ==== Sys2Proof/Machine/Step.lean ====
section
/-! DEFINITION. One step of the machine: one iteration of the executive loop (spec/65_executive.md R655; log 17), whose
first part is the CPU step of spec/60_exceptions.md R430. -/

namespace Sys2Proof.Machine

/-- Fetch and run one instruction; an illegal one raises IllegalOpcode (R430, R433). -/
def executeNext (s : State) : Result :=
  let f := s.fetch
  match f.1 with
  | some i => exec i f.2
  | none => .next f.2.raiseIllegal

/-- `cpu.step()` (R430), skipped while suspended (R655). -/
def cpuStep (s : State) : Result :=
  if s.exe.suspended then .next s
  else
    match s.cpuAction with
    | .stay => .next s
    | .execute => executeNext s
    | .enter e => .next (s.enterInterrupt e)
    | .wake e => .next (s.wakeFromWait e)
    | .unsync => .next { s with cpuState := .running }

/-- One iteration of R655. A machine in `Halted(code)` makes none (R434; log 16). -/
def step (s : State) : Host.Outcome State Fault Refusal :=
  match s.exe.halted with
  | some code => .fault (.halted code)
  | none =>
    match cpuStep s with
    | .next t => .next t.finishIteration
    | .fault r => .fault r
    | .refused r => .refused r

/-- `s` with the instruction of a word of the opcode table, zeros after it, stored at PC (log 3, log 4). -/
def State.withFetchWord (s : State) (nbits w : Nat) : State := s.load s.regs.pc (tableBytes nbits w)

end Sys2Proof.Machine
end

