-- ==== Sys2Proof/Safety.lean ====
section
/-! DEFINITION. What counts as a safe run, and the invariant that every step keeps. -/

namespace Sys2Proof.Machine

/-- A machine that runs: it is not in the absorbing `Halted(code)` of spec/60_exceptions.md R434. -/
def State.Safe (s : State) : Prop := s.exe.halted = none

/-- Memory is in its canonical form and inside the address space (spec/20_memory.md R80; log 2). -/
def State.MemoryOk (s : State) : Prop := s.mem.wf = true ∧ s.mem.below 65536 = true

/-- The image is in its canonical form and inside its length (spec/63_disk.md R586). -/
def DiskImage.Ok (img : DiskImage) : Prop := img.bytes.wf = true ∧ img.bytes.below img.length = true

/-- The length of the transfer of a disk state (R594 to R597). -/
def DiskState.transferLength (d : DiskState) : Nat :=
  match d with
  | .idle => 0
  | .read => 256
  | .write => 256
  | .readId => 6
  | .writeTrk => 4608

/-- The disk controller: a transfer in progress is Busy (R53, R603), it has its command's length and is not yet at its
end; the status bits that no rule sets are 0 (R583); the count towards the completion NMI is below 250 while it is armed
(R601); the track buffer holds at most 4608 bytes (R52). -/
structure Disk.Ok (d : Disk) : Prop where
  busy : d.diskState ≠ .idle → bit d.status 0 = true
  length : d.diskState ≠ .idle → d.bufLen = d.diskState.transferLength
  inside : d.diskState ≠ .idle → d.bufIndex < d.bufLen
  status : d.status &&& 0xE0#8 = 0x00#8
  armed : d.intrqArmed = true → d.idleTicks < 250
  bufferWf : d.trackBuf.wf = true
  bufferLen : d.trackBuf.below 4608 = true

/-- A PIA: no CA1 and no CX2 event exists, so that these flags stay 0 (spec/61_pia.md R484). -/
def Pia.Ok (p : Pia) : Prop := p.cra &&& 0xC0#8 = 0x00#8 ∧ p.crb &&& 0x40#8 = 0x00#8

/-- The tape trap (spec/10_state.md R54): WRITE is no resting state (spec/64_tape_trap.md R633), the counters and the
buffers keep their bounds, a filename is alphanumeric and at most 8 long (R634). -/
structure Tape.Ok (t : Tape) : Prop where
  resting : t.tapeState ≠ .write
  calls : t.callCount < 16
  capture : t.capture.length ≤ captureLimit
  name : t.filename.length ≤ 8
  alnum : t.filename.all isAlnum = true
  header : t.tapeState = .header → t.filename.length ≤ t.blockPos - 1

/-- A frame that has been rendered has its 256 × 192 bytes (spec/62_sam_vdg.md R549). -/
def Frame.Ok (f : Frame) : Prop :=
  match f with
  | .hostDraw _ => True
  | .rendered bytes => bytes.length = 256 * 192

/-- The executive (spec/65_executive.md R657, R658): a fatal event has halted the machine by the end of the iteration; the
CPU is HALTED exactly while it is suspended; what it resumes to is neither HALTED nor EXCEPTION. -/
structure State.ExecutiveOk (s : State) : Prop where
  exception : s.cpuState = .exception → s.exe.halted.isSome = true
  fatal : s.exe.fatal.isSome = true → s.exe.halted.isSome = true
  suspended : s.exe.suspended = true ↔ s.cpuState = .halted
  resume : s.exe.resumeState ≠ .halted ∧ s.exe.resumeState ≠ .exception
  fnKey : s.dev.fnKey = .none

/-- The invariant of the machine between two iterations. -/
structure State.Inv (s : State) : Prop where
  mem : s.MemoryOk
  image : s.dev.image.Ok
  disk : s.dev.disk.Ok
  pia0 : s.dev.pia0.Ok
  pia1 : s.dev.pia1.Ok
  tape : s.dev.tape.Ok
  frame : s.dev.frame.Ok
  executive : s.ExecutiveOk

end Sys2Proof.Machine
end

