-- ==== Sys2Proof/Reference.lean ====
section
/-! DEFINITION. The vocabulary of the statements: results and flags as integer arithmetic, the tables of the spec as plain
lists, the shapes of a stack frame, and which instructions a rule names. The meanings use none of it. -/

namespace Sys2Proof.Reference

open Sys2Proof.Machine

/-! ### Results and flags on integers (spec/41_arithmetic.md, spec/42_logic_shift.md) -/

/-- An integer that is no signed 8-bit value. -/
def over8 (n : Int) : Bool := decide (n < -128 ∨ 127 < n)

/-- An integer that is no signed 16-bit value. -/
def over16 (n : Int) : Bool := decide (n < -32768 ∨ 32767 < n)

/-- N and Z of an 8-bit result (R13). -/
def signZero8 (r : Byte) (cc : CC) : CC := { cc with n := decide (128 ≤ r.toNat), z := decide (r.toNat = 0) }

/-- N and Z of a 16-bit result (R13). -/
def signZero16 (r : Word) (cc : CC) : CC := { cc with n := decide (32768 ≤ r.toNat), z := decide (r.toNat = 0) }

/-- N and Z of the value, V cleared, 8 bits (R170, R180, R272, R300). -/
def value8 (r : Byte) (cc : CC) : CC := { signZero8 r cc with v := false }

/-- N and Z of the value, V cleared, 16 bits (R172, R182). -/
def value16 (r : Word) (cc : CC) : CC := { signZero16 r cc with v := false }

/-- The sum of R230 with its flags: C when it exceeds 255, H when the low halves exceed 15, V when the signed sum is no
signed byte. -/
def sum8 (a m : Byte) (c : Bool) (cc : CC) : Byte × CC :=
  let r : Byte := BitVec.ofNat 8 (a.toNat + m.toNat + c.toNat)
  (r, { signZero8 r cc with
        h := decide (15 < a.toNat % 16 + m.toNat % 16 + c.toNat)
        v := over8 (a.toInt + m.toInt + c.toNat)
        c := decide (255 < a.toNat + m.toNat + c.toNat) })

/-- The difference of R231 with its flags: C when a borrow is needed, V when the signed difference is no signed byte. -/
def diff8 (a m : Byte) (c : Bool) (cc : CC) : Byte × CC :=
  let r : Byte := BitVec.ofInt 8 ((a.toNat : Int) - m.toNat - c.toNat)
  (r, { signZero8 r cc with
        v := over8 (a.toInt - m.toInt - c.toNat)
        c := decide (a.toNat < m.toNat + c.toNat) })

/-- The 16-bit sum of R232 with its flags. -/
def sum16 (a m : Word) (cc : CC) : Word × CC :=
  let r : Word := BitVec.ofNat 16 (a.toNat + m.toNat)
  (r, { signZero16 r cc with v := over16 (a.toInt + m.toInt), c := decide (65535 < a.toNat + m.toNat) })

/-- The 16-bit difference of R233 with its flags. -/
def diff16 (a m : Word) (cc : CC) : Word × CC :=
  let r : Word := BitVec.ofInt 16 ((a.toNat : Int) - m.toNat)
  (r, { signZero16 r cc with v := over16 (a.toInt - m.toInt), c := decide (a.toNat < m.toNat) })

/-- The operations that write an accumulator (R240 to R248, R300 to R310). -/
def alu (op : AluOp) (a m : Byte) (cc : CC) : Byte × CC :=
  match op with
  | .add => sum8 a m false cc
  | .adc => sum8 a m cc.c cc
  | .sub => diff8 a m false cc
  | .sbc => diff8 a m cc.c cc
  | .and => (a &&& m, value8 (a &&& m) cc)
  | .or => (a ||| m, value8 (a ||| m) cc)
  | .eor => (a ^^^ m, value8 (a ^^^ m) cc)

/-- The flags of a compare and of BIT (R250, R251, R311, R312). -/
def test (op : TestOp) (a m : Byte) (cc : CC) : CC :=
  match op with
  | .cmp => (diff8 a m false cc).2
  | .bit => value8 (a &&& m) cc

/-- The operations of one operand on integers: the result and the flags (R260 to R268, R301, R320 to R339). -/
def unary (op : UnaryOp) (m : Byte) (cc : CC) : Byte × CC :=
  let n := m.toNat
  let odd := decide (n % 2 = 1)
  let high := decide (128 ≤ n)
  match op with
  | .neg =>
    let r : Byte := BitVec.ofInt 8 (-(n : Int))
    (r, { signZero8 r cc with v := decide (n = 128), c := decide (n ≠ 0) })
  | .com =>
    let r : Byte := BitVec.ofNat 8 (255 - n)
    (r, { signZero8 r cc with v := false, c := true })
  | .lsr =>
    let r : Byte := BitVec.ofNat 8 (n / 2)
    (r, { signZero8 r cc with c := odd })
  | .ror =>
    let r : Byte := BitVec.ofNat 8 (n / 2 + 128 * cc.c.toNat)
    (r, { signZero8 r cc with c := odd })
  | .asr =>
    let r : Byte := BitVec.ofNat 8 (n / 2 + 128 * high.toNat)
    (r, { signZero8 r cc with c := odd })
  | .asl =>
    let r : Byte := BitVec.ofNat 8 (2 * n)
    (r, { signZero8 r cc with v := over8 (2 * m.toInt), c := high })
  | .rol =>
    let r : Byte := BitVec.ofNat 8 (2 * n + cc.c.toNat)
    (r, { signZero8 r cc with v := over8 (2 * m.toInt), c := high })
  | .dec =>
    let r : Byte := BitVec.ofInt 8 ((n : Int) - 1)
    (r, { signZero8 r cc with v := decide (n = 128) })
  | .inc =>
    let r : Byte := BitVec.ofNat 8 (n + 1)
    (r, { signZero8 r cc with v := decide (n = 127) })

/-- The branch conditions of spec/43_control_transfer.md R360. -/
def condition (c : Cond) (cc : CC) : Bool :=
  match c with
  | .ra => true
  | .rn => false
  | .hi => cc.c == false && cc.z == false
  | .ls => cc.c == true || cc.z == true
  | .hs => cc.c == false
  | .lo => cc.c == true
  | .ne => cc.z == false
  | .eq => cc.z == true
  | .vc => cc.v == false
  | .vs => cc.v == true
  | .pl => cc.n == false
  | .mi => cc.n == true
  | .ge => cc.n == cc.v
  | .lt => cc.n != cc.v
  | .gt => cc.z == false && cc.n == cc.v
  | .le => cc.z == true || cc.n != cc.v

/-! ### Cells -/

/-- A cell whose read has no side effect: Ram or Rom (spec/20_memory.md R85). -/
def Plain (s : State) (a : Word) : Prop := s.tagOf a = .ram ∨ s.tagOf a = .rom

/-- The `n` byte values from `a` on, modulo 2^16. -/
def bytesFrom (s : State) (a : Word) (n : Nat) : List Byte :=
  match n with
  | 0 => []
  | n + 1 => s.peek a :: bytesFrom s (a + 1#16) n

/-- The 16-bit value at `a`, the high byte first (R90). -/
def wordAt (s : State) (a : Word) : Word := BitVec.ofNat 16 (256 * (s.peek a).toNat + (s.peek (a + 1#16)).toNat)

/-- The `n` cells from `a` on are Ram. -/
def RamFrom (s : State) (a : Word) (n : Nat) : Prop := ∀ k < n, s.tagOf (a + BitVec.ofNat 16 k) = .ram

/-- The `n` cells from `a` on are Ram or Rom. -/
def PlainFrom (s : State) (a : Word) (n : Nat) : Prop := ∀ k < n, Plain s (a + BitVec.ofNat 16 k)

/-- `a` is none of the `n` cells from `base` on. -/
def Outside (base : Word) (n : Nat) (a : Word) : Prop := ∀ k < n, a ≠ base + BitVec.ofNat 16 k

/-- Memory `t` differs from `s` exactly as a store of `bs` at `base` does: the bytes stand there and every other address
reads as before. -/
def Stored (s t : State) (base : Word) (bs : List Byte) : Prop :=
  bytesFrom t base bs.length = bs ∧ ∀ a, Outside base bs.length a → t.peek a = s.peek a

/-- Everything but memory and the register file is the same. -/
def SameOutside (s t : State) : Prop := t = { s with regs := t.regs, mem := t.mem }

/-! ### Effective addresses (spec/30_encoding.md R131) -/

/-- The register that a form reads, with the steps it makes before and after: the address is the register after the step
before. -/
def indexTarget (f : IndexForm) (r : Regs) : Int :=
  match f with
  | .off5 k n => (r.base k).toNat + n.toInt
  | .inc1 k => (r.base k).toNat
  | .inc2 k => (r.base k).toNat
  | .dec1 k => (r.base k).toNat - 1
  | .dec2 k => (r.base k).toNat - 2
  | .zero k => (r.base k).toNat
  | .accB k => (r.base k).toNat + r.b.toInt
  | .accA k => (r.base k).toNat + r.a.toInt
  | .off8 k n => (r.base k).toNat + n.toInt
  | .off16 k n => (r.base k).toNat + n.toInt
  | .accD k => (r.base k).toNat + (256 * r.a.toNat + r.b.toNat)
  | .pcr8 _ n => r.pc.toNat + n.toInt
  | .pcr16 _ n => r.pc.toNat + n.toInt
  | .ext _ n => n.toNat

/-- By how much a form moves its base register (R133). -/
def indexStep (f : IndexForm) : Option (IndexReg × Int) :=
  match f with
  | .inc1 k => some (k, 1)
  | .inc2 k => some (k, 2)
  | .dec1 k => some (k, -1)
  | .dec2 k => some (k, -2)
  | _ => none

/-- The register file after the step of a form. -/
def stepped (f : IndexForm) (r : Regs) : Regs :=
  match indexStep f with
  | none => r
  | some (.x, n) => { r with x := r.x + BitVec.ofInt 16 n }
  | some (.y, n) => { r with y := r.y + BitVec.ofInt 16 n }
  | some (.u, n) => { r with u := r.u + BitVec.ofInt 16 n }
  | some (.s, n) => { r with s := r.s + BitVec.ofInt 16 n }

/-- The register file after the address computation of a memory operand. -/
def steppedMem (m : MemOperand) (r : Regs) : Regs :=
  match m with
  | .dir _ => r
  | .idx ix => stepped ix.form r
  | .ext _ => r

/-- The register file after the address computation of an operand. -/
def stepped8 (o : Operand8) (r : Regs) : Regs :=
  match o with
  | .imm _ => r
  | .mem m => steppedMem m r

/-- The register file after the address computation of an operand. -/
def stepped16 (o : Operand16) (r : Regs) : Regs :=
  match o with
  | .imm _ => r
  | .mem m => steppedMem m r

/-- Two states of a PIA that differ at most in that flags of a side have been cleared: the other registers and bits 5..0
of the control registers are the same (spec/61_pia.md R487). -/
def FlagsCleared (p q : Pia) : Prop :=
  q = { p with cra := q.cra, crb := q.crb } ∧
    (q.cra = p.cra ∨ q.cra = p.cra &&& 0x3F#8) ∧ (q.crb = p.crb ∨ q.crb = p.crb &&& 0x3F#8)

/-- Two states of the disk controller that differ at most in what reads of DATA advance: the command, the track and sector
registers, the latch, the buffer and the place of the transfer are the same (spec/63_disk.md R592). -/
def TransferAdvanced (d e : Disk) : Prop :=
  e = { d with
    data := e.data, status := e.status, bufIndex := e.bufIndex, diskState := e.diskState, intrqArmed := e.intrqArmed
    idleTicks := e.idleTicks }

/-- What reading cells can change: flags of the PIAs are cleared, a disk transfer advances, draws are made; nothing else
(spec/20_memory.md R94). -/
def ReadOnly (s t : State) : Prop :=
  t.regs = s.regs ∧ t.cpuState = s.cpuState ∧ t.lines = s.lines ∧ t.lastPc = s.lastPc ∧
    t.lastOpcodeBytes = s.lastOpcodeBytes ∧ t.mem = s.mem ∧ t.tags = s.tags ∧ t.exe = s.exe ∧
    t.dev = { s.dev with pia0 := t.dev.pia0, pia1 := t.dev.pia1, disk := t.dev.disk } ∧
    FlagsCleared s.dev.pia0 t.dev.pia0 ∧ FlagsCleared s.dev.pia1 t.dev.pia1 ∧ TransferAdvanced s.dev.disk t.dev.disk ∧
    t.host = { s.host with draws := t.host.draws }

/-! ### Registers -/

/-- The same register or a half of it: D holds A and B (spec/10_state.md R31). -/
def overlaps (r q : Reg) : Bool :=
  match r, q with
  | .d, .a => true
  | .d, .b => true
  | .a, .d => true
  | .b, .d => true
  | r, q => r == q

/-! ### Stack frames (spec/30_encoding.md R142, spec/44_system.md R411) -/

/-- The bytes a list of registers takes on the stack, from the lowest address upward; `other` is the other stack
pointer. -/
def listBytes (pb : Byte) (r : Regs) (other : Word) : List Byte :=
  (if bit pb 0 then [r.cc.toByte] else []) ++ (if bit pb 1 then [r.a] else []) ++
    (if bit pb 2 then [r.b] else []) ++ (if bit pb 3 then [r.dp] else []) ++
    (if bit pb 4 then wordBytes r.x else []) ++ (if bit pb 5 then wordBytes r.y else []) ++
    (if bit pb 6 then wordBytes other else []) ++ (if bit pb 7 then wordBytes r.pc else [])

/-- The twelve bytes of the entire state, CC at the lowest address (R411). -/
def entireFrame (r : Regs) : List Byte := listBytes 0xFF#8 r r.u

/-- The number of bytes a list of registers takes (R142). -/
def listSize (pb : Byte) : Nat :=
  (bit pb 0).toNat + (bit pb 1).toNat + (bit pb 2).toNat + (bit pb 3).toNat +
    2 * ((bit pb 4).toNat + (bit pb 5).toNat + (bit pb 6).toNat + (bit pb 7).toNat)

/-- Take one byte of a frame when `p`. -/
def take8 (p : Bool) (f : Byte → Regs → Regs) (v : Regs × List Byte) : Regs × List Byte :=
  match p, v.2 with
  | true, b :: rest => (f b v.1, rest)
  | _, _ => v

/-- Take two bytes of a frame, the high one first, when `p`. -/
def take16 (p : Bool) (f : Word → Regs → Regs) (v : Regs × List Byte) : Regs × List Byte :=
  match p, v.2 with
  | true, h :: l :: rest => (f (BitVec.ofNat 16 (256 * h.toNat + l.toNat)) v.1, rest)
  | _, _ => v

/-- The registers after a list of them is filled from the bytes `bs` of a frame, in the order of R142; `other` puts the
other stack pointer. -/
def pulled (pb : Byte) (other : Word → Regs → Regs) (bs : List Byte) (r : Regs) : Regs :=
  let v := (r, bs)
  let v := take8 (bit pb 0) (fun b r => { r with cc := CC.ofByte b }) v
  let v := take8 (bit pb 1) (fun b r => { r with a := b }) v
  let v := take8 (bit pb 2) (fun b r => { r with b := b }) v
  let v := take8 (bit pb 3) (fun b r => { r with dp := b }) v
  let v := take16 (bit pb 4) (fun w r => { r with x := w }) v
  let v := take16 (bit pb 5) (fun w r => { r with y := w }) v
  let v := take16 (bit pb 6) other v
  let v := take16 (bit pb 7) (fun w r => { r with pc := w }) v
  v.1

/-- Put U. -/
def putU (w : Word) (r : Regs) : Regs := { r with u := w }

/-- Put S. -/
def putS (w : Word) (r : Regs) : Regs := { r with s := w }

/-- What taking an exception does (spec/60_exceptions.md R440): `frame` is pushed through S, S and CC and PC are all the
registers that change, and PC comes from the vector. The registers and the rest of memory whatever the stack points at;
the pushed bytes where it points at Ram; PC where the vector's cells have no handler. -/
def Entered (vector : Word) (cc : CC) (frame : List Byte) (s t : State) : Prop :=
  let base := s.regs.s - BitVec.ofNat 16 frame.length
  t.regs = { s.regs with s := base, cc := cc, pc := t.regs.pc } ∧
    (∀ a, Outside base frame.length a → t.peek a = s.peek a) ∧
    (RamFrom s base frame.length → Stored s t base frame ∧
      (PlainFrom s vector 2 → SameOutside s t ∧ t.regs.pc = wordAt t vector))

/-- The frame of FIRQ: CC and PC (R440). -/
def shortFrame (r : Regs) : List Byte := r.cc.toByte :: wordBytes r.pc

/-! ### Which instructions a rule names -/

/-- The instructions whose own destination is S (spec/40_load_store.md R229). -/
def armsNmi (i : Instr) : Bool :=
  match i with
  | .ldsImm _ => true
  | .ldsDir _ => true
  | .ldsIdx _ => true
  | .ldsExt _ => true
  | .leas _ => true
  | .tfr _ dst => dst == .s
  | .exg r1 r2 => r1 == .s || r2 == .s
  | .pulu pb => bit pb 6
  | _ => false

/-- The instructions that write CC as a whole (spec/10_state.md R37). -/
def writesCC (i : Instr) : Bool :=
  match i with
  | .andcc _ => true
  | .orcc _ => true
  | .cwai _ => true
  | .rti => true
  | .tfr _ dst => dst == .cc
  | .exg r1 r2 => r1 == .cc || r2 == .cc
  | .puls pb => bit pb 0
  | .pulu pb => bit pb 0
  | _ => false

/-- ADDA, ADDB, ADCA, ADCB, which alone compute H (spec/41_arithmetic.md R234). -/
def computesH (i : Instr) : Prop := ∃ k o, i = .alu .add k o ∨ i = .alu .adc k o

/-- SWI, SWI2, SWI3. -/
def softwareInterrupt (i : Instr) : Bool := i == .swi || i == .swi2 || i == .swi3

/-- The instructions that write to memory: stores, read-modify-write, CLR on memory, pushes and stacking. -/
def stores (i : Instr) : Prop :=
  (∃ k m, i = .store8 k m) ∨ (∃ k m, i = .store16 k m) ∨ (∃ op m, i = .unaryMem op m) ∨ (∃ m, i = .clr m) ∨
    (∃ m, i = .jsr m) ∨ (∃ off, i = .bsr off) ∨ (∃ off, i = .lbsr off) ∨ (∃ pb, i = .pshs pb) ∨
    (∃ pb, i = .pshu pb) ∨ i = .swi ∨ i = .swi2 ∨ i = .swi3 ∨ ∃ m, i = .cwai m

/-! ### Ready to run -/

/-- A machine that runs an instruction in its next step: not halted, not suspended, RUNNING, no request acceptable
(spec/60_exceptions.md R430). -/
def Ready (s : State) : Prop :=
  s.exe.halted = none ∧ s.exe.suspended = false ∧ s.cpuState = .running ∧ s.acceptable = none

/-- The state in which the instruction of the `n` bytes at PC runs: PC past it, its bytes recorded (spec/10_state.md R35,
R42). -/
def afterFetch (s : State) (n : Nat) : State :=
  { s with
    lastPc := s.regs.pc
    lastOpcodeBytes := bytesFrom s s.regs.pc n
    regs := { s.regs with pc := s.regs.pc + BitVec.ofNat 16 n } }

/-- The rest of the iteration after the CPU step of an outcome. -/
def thenPoll (r : Result) : Result :=
  match r with
  | .next t => .next t.finishIteration
  | .fault e => .fault e
  | .refused e => .refused e

/-- The next iteration that polls releases a pressed reset button, and so performs a reset (spec/65_executive.md R656). -/
def ReleasesReset (s : State) : Prop :=
  s.exe.resetPressedAt ≠ none ∧ ∃ h, s.host.answers.head? = some h ∧ h.resetButton = true

/-- The machine halted with a code (spec/65_executive.md R657). -/
def haltedWith (code : FatalCode) (s : State) : State :=
  { s with
    host := { s.host with calls := .halt :: .diagnostic code s.lastPc s.lastOpcodeBytes :: s.host.calls }
    exe := { s.exe with halted := some code } }

/-! ### Devices -/

/-- `n` reads of the disk DATA register: the bytes read, and the state after them (spec/63_disk.md R592). -/
def readData (n : Nat) (s : State) : List Byte × State :=
  match n with
  | 0 => ([], s)
  | n + 1 =>
    let r := s.readDisk 3
    let q := readData n r.2
    (r.1 :: q.1, q.2)

/-- Write the bytes of `bs` to the disk DATA register (R593). -/
def writeData (bs : List Byte) (s : State) : State :=
  match bs with
  | [] => s
  | b :: rest => writeData rest (s.writeDisk 3 b)

/-- `n` disk ticks (R600). -/
def ticks (n : Nat) (s : State) : State :=
  match n with
  | 0 => s
  | n + 1 => ticks n s.diskTick

/-- Feed the bytes of a stream to the tape trap; the files it writes, in order (spec/64_tape_trap.md R633). -/
def feedAll (bs : List Byte) (t : Tape) : Tape × List (List Byte × List Byte) :=
  match bs with
  | [] => (t, [])
  | b :: rest =>
    let r := t.feed b
    let q := feedAll rest r.1
    (q.1, r.2.toList ++ q.2)

/-- A data block of a tape stream: `j` leader bytes, sync, type 1, length, payload, checksum (R641). -/
structure DataBlock where
  leader : Nat
  payload : List Byte
  checksum : Byte

/-- The bytes of a block with its sync byte, type, length and checksum. -/
def blockBytes (kind : Byte) (payload : List Byte) (checksum : Byte) : List Byte :=
  [0x3C#8, kind, BitVec.ofNat 8 payload.length] ++ payload ++ [checksum]

/-- The bytes of the data blocks of a stream. -/
def dataBytes (blocks : List DataBlock) : List Byte :=
  match blocks with
  | [] => []
  | d :: rest => List.replicate d.leader 0x55#8 ++ blockBytes 0x01#8 d.payload d.checksum ++ dataBytes rest

/-- The stream of R641: `55^k`, the header block, data blocks, `55^i`, the EOF block of length 0. -/
def tapeStream (k : Nat) (header : List Byte) (hsum : Byte) (blocks : List DataBlock) (i : Nat) (esum : Byte) : List Byte :=
  List.replicate k 0x55#8 ++ blockBytes 0x00#8 header hsum ++ dataBytes blocks ++
    List.replicate i 0x55#8 ++ [0x3C#8, 0xFF#8, 0x00#8, esum]

end Sys2Proof.Reference
end

