-- ==== Sys2Proof/Certificates/Slice0/Obligations.lean ====
section
/-! DEFINITION. The statements for the provers. -/

open Sys2Proof Sys2Proof.Machine Sys2Proof.Reference

/-! ### Encoding -/

/-- Decoding the encoding of a well-formed instruction gives it back, with the bytes that follow it (spec/30_encoding.md
R120, R121, R131, R140, R142, R146, R147, R148). -/
def Obligations.EncodeThenDecode : Prop :=
  ∀ (i : Instr) (rest : List Byte), i.wf = true → decode (encode i ++ rest) = .ok (i, rest)

/-- Whatever decodes is the encoding of a well-formed instruction: no bit of an encoding is dropped (R120 to R148). -/
def Obligations.DecodeThenEncode : Prop :=
  ∀ (bs : List Byte) (i : Instr) (rest : List Byte),
    decode bs = .ok (i, rest) → i.wf = true ∧ encode i ++ rest = bs

/-- Words written out from the tables R131, R140, R142, R146 to R148. -/
def Obligations.DecodesTheseWords : Prop :=
  decode [0x86, 0x12] = .ok (.ldaImm 0x12, []) ∧
    decode [0xFD, 0x20, 0x00] = .ok (.stdExt 0x2000, []) ∧
    decode [0x10, 0xAE, 0x99, 0x12, 0x34] = .ok (.ldyIdx ⟨.off16 .x 0x1234, true⟩, []) ∧
    decode [0x30, 0x1F] = .ok (.leax ⟨.off5 .x 0x1F, false⟩, []) ∧
    decode [0x6E, 0x9F, 0xFF, 0xFE] = .ok (.jmpIdx ⟨.ext .x 0xFFFE, true⟩, []) ∧
    decode [0x1E, 0x89] = .ok (.exg .a .b, []) ∧
    decode [0x10, 0x2E, 0x00, 0x10] = .ok (.lbgt 0x0010, []) ∧
    decode [0x11, 0x3F] = .ok (.swi3, [])

/-- The illegal opcodes: 33 bytes of page 1, and every second byte of pages 2 and 3 outside their lists (R121, R149). -/
def Obligations.IllegalOpcodes : Prop :=
  (∀ (op : Byte) (rest : List Byte),
    decode (op :: rest) = .error (.illegalOpcode 1 op) ↔
      op ∈ ([0x01, 0x02, 0x05, 0x0B, 0x14, 0x15, 0x18, 0x1B, 0x38, 0x3E, 0x41, 0x42, 0x45, 0x4B, 0x4E, 0x51, 0x52,
        0x55, 0x5B, 0x5E, 0x61, 0x62, 0x65, 0x6B, 0x71, 0x72, 0x75, 0x7B, 0x87, 0x8F, 0xC7, 0xCD, 0xCF] : List Byte)) ∧
  (∀ (op : Byte) (rest : List Byte),
    decode (0x10 :: op :: rest) = .error (.illegalOpcode 2 op) ↔
      op ∉ ([0x21, 0x22, 0x23, 0x24, 0x25, 0x26, 0x27, 0x28, 0x29, 0x2A, 0x2B, 0x2C, 0x2D, 0x2E, 0x2F, 0x3F, 0x83,
        0x93, 0xA3, 0xB3, 0x8C, 0x9C, 0xAC, 0xBC, 0x8E, 0x9E, 0xAE, 0xBE, 0x9F, 0xAF, 0xBF, 0xCE, 0xDE, 0xEE, 0xFE,
        0xDF, 0xEF, 0xFF] : List Byte)) ∧
  ∀ (op : Byte) (rest : List Byte),
    decode (0x11 :: op :: rest) = .error (.illegalOpcode 3 op) ↔
      op ∉ ([0x3F, 0x83, 0x93, 0xA3, 0xB3, 0x8C, 0x9C, 0xAC, 0xBC] : List Byte)

/-! ### The step -/

/-- The bytes at PC decode to an instruction: the step is `exec` of it, with PC past its bytes and these recorded, and
then the rest of the iteration (spec/60_exceptions.md R430, spec/10_state.md R35, R42). The bytes stand in cells without a
handler, so that fetching them has no effect of its own. That the bytes are recorded at the end of the fetch is the model's
choice (log 30). -/
def Obligations.StepRunsTheDecodedInstruction : Prop :=
  ∀ (s : State) (i : Instr) (rest : List Byte),
    Ready s → decode (bytesFrom s s.regs.pc maxLength) = .ok (i, rest) →
    PlainFrom s s.regs.pc (maxLength - rest.length) →
    step s = thenPoll (exec i (afterFetch s (maxLength - rest.length)))

/-- Illegal bytes: PC goes back to the first byte, the CPU is in EXCEPTION, no other register and no memory changes, the
bytes fetched are recorded, and the executive halts the machine; and so it does at the check after a CPU step that
recorded any other fatal event (R433, R434, spec/65_executive.md R657). How the bytes and the calls of the host are recorded
is the model's choice (logs 21, 30). -/
def Obligations.FatalEventsHalt : Prop :=
  (∀ (s t : State) (code : FatalCode),
    s.exe.halted = none → cpuStep s = .next t → t.cpuState ≠ .exception → t.exe.fatal = some code →
    step s = .next (haltedWith code t)) ∧
  ∀ (s : State) (n : Nat) (e : DecodeError),
    Ready s → (∀ m < n, decode (bytesFrom s s.regs.pc m) = .error .truncated) →
    decode (bytesFrom s s.regs.pc n) = .error e → e ≠ .truncated → PlainFrom s s.regs.pc n →
    step s = .next (haltedWith .illegalOpcode
      { s with lastPc := s.regs.pc, lastOpcodeBytes := bytesFrom s s.regs.pc n, cpuState := .exception })

/-- A machine that is not halted always makes its step; one that is halted makes none (R430, R434). -/
def Obligations.EveryStepAnswers : Prop :=
  ∀ s : State,
    (s.exe.halted = none → ∃ t, step s = .next t) ∧
    ∀ code, s.exe.halted = some code → step s = .fault (.halted code)

/-! ### Invariants and whole-machine rules -/

/-- The invariant holds right after reset. -/
def Obligations.InvHoldsAtReset : Prop := State.reset.Inv

/-- Every step keeps the invariant, from every state that has it: canonical memory, the disk controller's Busy bit and
transfer bounds, the PIA flags that have no source, the tape trap's bounds, the suspension of the executive (R53, R54,
R484, R549, R583, R603, R633, R657, R658). -/
def Obligations.StepKeepsInv : Prop := ∀ s t : State, s.Inv → step s = .next t → t.Inv

/-- No step changes a tag or a parameter that State holds, and no step changes a Rom cell unless the loader acts in that step
(spec/20_memory.md R81, R86, spec/00_scope.md R10). -/
def Obligations.RomAndTagsNeverChange : Prop :=
  ∀ s t : State, step s = .next t →
    t.tags = s.tags ∧ t.dev.tapeStackOffset = s.dev.tapeStackOffset ∧ t.dev.latchLayout = s.dev.latchLayout ∧
    ((∀ h, s.host.answers.head? = some h → h.loader = []) → ∀ a, s.tagOf a = .rom → t.peek a = s.peek a)

/-- NMI is armed by the instructions of R229 and by nothing else, and stays armed until a reset: every step that makes none
keeps it. A step makes one when it polls, which takes one record of answers, and the record releases a pressed button. -/
def Obligations.OnlyTheseArmNmi : Prop :=
  (∀ (i : Instr) (s t : State), i.wf = true → exec i s = .next t →
    t.lines.nmiArmed = (s.lines.nmiArmed || armsNmi i)) ∧
  (∀ (e : Event) (s : State), (s.enterInterrupt e).lines.nmiArmed = s.lines.nmiArmed ∧
    (s.wakeFromWait e).lines.nmiArmed = s.lines.nmiArmed) ∧
  ∀ s t : State, step s = .next t → s.lines.nmiArmed = true → (ReleasesReset s → t.host.answers = s.host.answers) →
    t.lines.nmiArmed = true

/-- E, F and I change only by a write of CC as a whole, a software interrupt or CWAI; H only by these writes of CC and by
ADDA, ADDB, ADCA, ADCB (spec/10_state.md R38, R39, R40). -/
def Obligations.OnlyTheseWriteMasksAndHalfCarry : Prop :=
  ∀ (i : Instr) (s t : State), exec i s = .next t → writesCC i = false →
    (softwareInterrupt i = false →
      t.regs.cc.e = s.regs.cc.e ∧ t.regs.cc.f = s.regs.cc.f ∧ t.regs.cc.i = s.regs.cc.i) ∧
    (¬ computesH i → t.regs.cc.h = s.regs.cc.h)

/-- An instruction that is no store, read-modify-write, CLR, push or stacking leaves every byte of memory, the SAM, the
VDG, the tape trap and the disk image as they are (spec/20_memory.md R97). -/
def Obligations.OnlyStoresChangeMemory : Prop :=
  ∀ (i : Instr) (s t : State), exec i s = .next t → ¬ stores i →
    t.mem = s.mem ∧ t.dev.sam = s.dev.sam ∧ t.dev.piaVideoMode = s.dev.piaVideoMode ∧ t.dev.frame = s.dev.frame ∧
      t.dev.tape = s.dev.tape ∧ t.dev.image = s.dev.image

/-! ### The bus -/

/-- A read changes nothing but PIA flags, which it can only clear, the transfer of the disk controller and the count of
draws; in particular it requests no interrupt. In a Ram, Rom or unhandled cell it changes nothing at all (R85, R94). -/
def Obligations.ReadsAreSafe : Prop :=
  ∀ (a : Word) (s : State),
    ReadOnly s (s.readByte a).2 ∧
    (Plain s a → s.readByte a = (s.peek a, s)) ∧
    (s.tagOf a = .io none → s.readByte a = (0x00, s))

/-- A write changes the cell of its own address at most, and no register; a Ram cell takes the byte; a Rom cell and a cell
without a handler ignore it (R86, R87, R99). -/
def Obligations.WritesChangeOneCell : Prop :=
  ∀ (a : Word) (v : Byte) (s : State),
    let t := s.writeByte a v
    (∀ b, b ≠ a → t.peek b = s.peek b) ∧
    t.regs = s.regs ∧ t.tags = s.tags ∧ t.cpuState = s.cpuState ∧ t.lines.nmiArmed = s.lines.nmiArmed ∧
    (s.tagOf a = .ram → t = { s with mem := t.mem } ∧ t.readByte a = (v, t)) ∧
    (s.tagOf a = .rom → t = s) ∧
    (s.tagOf a = .io none → t = s)

/-- A 16-bit access is big-endian and wraps at 0xFFFF: what is written to two Ram cells stands there high byte first, is
read back, and every other byte is as before (R90, R91). -/
def Obligations.WordsAreBigEndian : Prop :=
  ∀ (a v : Word) (s : State), RamFrom s a 2 →
    let t := s.writeWord a v
    SameOutside s t ∧ t.regs = s.regs ∧ Stored s t a [BitVec.ofNat 8 (v.toNat / 256), BitVec.ofNat 8 (v.toNat % 256)] ∧
      t.readWord a = (v, t)

/-- The address map after init, for tape-trap cells in Ram (R82). -/
def Obligations.InitialMap : Prop :=
  ∀ (traps : List Nat) (a : Nat), (∀ k ∈ traps, k < 0x8000) → a < 0x10000 →
    tagAt (initTags traps) a =
      if a ∈ traps then .io (some .tapeTrap)
      else if a ≤ 0x7FFF then .ram
      else if a ≤ 0xFEFF then .rom
      else if a ≤ 0xFF03 then .io (some .pia0)
      else if a ≤ 0xFF1F then .io none
      else if a ≤ 0xFF23 then .io (some .pia1)
      else if a ≤ 0xFF3F then .io none
      else if a ≤ 0xFF48 then .io (some .wd2797)
      else if a ≤ 0xFFBF then .io none
      else if a ≤ 0xFFDF then .io (some .sam)
      else if a ≤ 0xFFEF then .io none
      else .rom

/-! ### Operands -/

/-- The effective address of every addressing mode, modulo 2^16, with the step of the base register; an indirect form
reads its pointer there (spec/30_encoding.md R124, R125, R131, R132, R133, R134). That the terms which no post-byte
encodes (an indirect `off5`, `inc1` or `dec1`, a direct `ext`; R135) follow the same rule is the model's choice (log 24). -/
def Obligations.EffectiveAddresses : Prop :=
  ∀ s : State,
    (∀ lo : Byte, s.ea (.dir lo) = (BitVec.ofNat 16 (256 * s.regs.dp.toNat + lo.toNat), s)) ∧
    (∀ a : Word, s.ea (.ext a) = (a, s)) ∧
    (∀ f : IndexForm,
      s.ea (.idx ⟨f, false⟩) =
        (BitVec.ofInt 16 (indexTarget f s.regs), { s with regs := stepped f s.regs })) ∧
    ∀ f : IndexForm, PlainFrom s (BitVec.ofInt 16 (indexTarget f s.regs)) 2 →
      s.ea (.idx ⟨f, true⟩) =
        (wordAt s (BitVec.ofInt 16 (indexTarget f s.regs)), { s with regs := stepped f s.regs })

/-- Computing an address and reading an operand move the base register as R133 says, clear PIA flags and advance a disk
transfer at most, and change no other register, no memory, no latch; the value is the immediate or what the bus reads at
the address (R127, R133). For the terms that no post-byte encodes (R135) this is the model's choice (log 24). -/
def Obligations.OperandReads : Prop :=
  ∀ s : State,
    (∀ m : MemOperand, ReadOnly { s with regs := steppedMem m s.regs } (s.ea m).2) ∧
    (∀ o : Operand8, ReadOnly { s with regs := stepped8 o s.regs } (s.operand8 o).2) ∧
    (∀ o : Operand16, ReadOnly { s with regs := stepped16 o s.regs } (s.operand16 o).2) ∧
    (∀ v : Byte, (s.operand8 (.imm v)).1 = v) ∧ (∀ v : Word, (s.operand16 (.imm v)).1 = v) ∧
    (∀ m : MemOperand, Plain s (s.ea m).1 → (s.operand8 (.mem m)).1 = s.peek (s.ea m).1) ∧
    ∀ m : MemOperand, PlainFrom s (s.ea m).1 2 → (s.operand16 (.mem m)).1 = wordAt s (s.ea m).1

/-! ### Loads, stores, addresses, transfers, stacks -/

/-- LDA, LDB, LDD, LDX, LDY, LDU, LDS in every mode: the register takes the operand, N and Z are its sign and zero, V is
cleared, LDS arms NMI; nothing else changes beyond the reading of the operand (spec/40_load_store.md R170 to R176). -/
def Obligations.LoadResults : Prop :=
  (∀ (k : Acc) (o : Operand8) (s : State),
    let m := s.operand8 o
    exec (.load8 k o) s =
      .next { m.2 with regs := { m.2.regs.setAcc k m.1 with cc := value8 m.1 m.2.regs.cc } }) ∧
  ∀ (k : Reg16) (o : Operand16) (s : State),
    let m := s.operand16 o
    exec (.load16 k o) s =
      .next { m.2 with
        regs := { m.2.regs.put k.reg m.1 with cc := value16 m.1 m.2.regs.cc }
        lines := { m.2.lines with nmiArmed := m.2.lines.nmiArmed || k == .s } }

/-- STA, STB, STD, STX, STY, STU, STS in every mode: the register goes to the effective address over the bus, N and Z are
its sign and zero, V is cleared. Memory changes at most in the cells of the operand, and where these are Ram they hold the
value, high byte first (R180 to R186). -/
def Obligations.StoreResults : Prop :=
  (∀ (k : Acc) (m : MemOperand) (s : State),
    let e := s.ea m
    let v := e.2.regs.acc k
    let w := e.2.writeByte e.1 v
    exec (.store8 k m) s = .next { w with regs := { w.regs with cc := value8 v w.regs.cc } } ∧
      w.regs = e.2.regs ∧ (∀ a, a ≠ e.1 → w.peek a = s.peek a) ∧
      (s.tagOf e.1 = .ram → w.peek e.1 = v) ∧ (s.tagOf e.1 = .rom → w.peek e.1 = s.peek e.1)) ∧
  ∀ (k : Reg16) (m : MemOperand) (s : State),
    let e := s.ea m
    let v := e.2.regs.get k.reg
    let w := (e.2.writeByte e.1 (BitVec.ofNat 8 (v.toNat / 256))).writeByte (e.1 + 1#16) (BitVec.ofNat 8 (v.toNat % 256))
    exec (.store16 k m) s = .next { w with regs := { w.regs with cc := value16 v w.regs.cc } } ∧
      w.regs = e.2.regs ∧ (∀ a, a ≠ e.1 → a ≠ e.1 + 1#16 → w.peek a = s.peek a) ∧
      (RamFrom s e.1 2 → wordAt w e.1 = v)

/-- LEAX and LEAY write the effective address and Z; LEAU and LEAS write no flag; LEAS arms NMI (R190 to R193). -/
def Obligations.LeaResults : Prop :=
  ∀ (ix : Indexed) (s : State),
    let e := s.ea (.idx ix)
    exec (.lea .x ix) s = .next { e.2 with
      regs := { e.2.regs with x := e.1, cc := { e.2.regs.cc with z := decide (e.1.toNat = 0) } } } ∧
    exec (.lea .y ix) s = .next { e.2 with
      regs := { e.2.regs with y := e.1, cc := { e.2.regs.cc with z := decide (e.1.toNat = 0) } } } ∧
    exec (.lea .u ix) s = .next { e.2 with regs := { e.2.regs with u := e.1 } } ∧
    exec (.lea .s ix) s = .next { e.2 with
      regs := { e.2.regs with s := e.1 }, lines := { e.2.lines with nmiArmed := true } }

/-- TFR copies the source to the destination, EXG swaps both; every register that is neither a named register nor a half
or whole of one is unchanged, and so is the rest of the machine but the arming of NMI by a write of S (R200, R201). A pair
of unlike sizes has no encoding; such a term raises IllegalOpcode (log 24, the model's choice). -/
def Obligations.TransferAndExchange : Prop :=
  ∀ (r1 r2 : Reg) (s : State),
    (r1.is16 = r2.is16 →
      (∃ t, exec (.tfr r1 r2) s = .next t ∧ t.regs.get r2 = s.regs.get r1 ∧
        (∀ r, overlaps r r2 = false → t.regs.get r = s.regs.get r) ∧
        t = { s with regs := t.regs, lines := { s.lines with nmiArmed := s.lines.nmiArmed || r2 == .s } }) ∧
      ∃ t, exec (.exg r1 r2) s = .next t ∧ t.regs.get r1 = s.regs.get r2 ∧ t.regs.get r2 = s.regs.get r1 ∧
        (∀ r, overlaps r r1 = false → overlaps r r2 = false → t.regs.get r = s.regs.get r) ∧
        t = { s with regs := t.regs, lines := { s.lines with nmiArmed := s.lines.nmiArmed || r1 == .s || r2 == .s } }) ∧
    (r1.is16 ≠ r2.is16 →
      exec (.tfr r1 r2) s = .next { s with regs := { s.regs with pc := s.lastPc }, cpuState := .exception } ∧
      exec (.exg r1 r2) s = .next { s with regs := { s.regs with pc := s.lastPc }, cpuState := .exception })

/-- PSHS and PSHU move their pointer down by the size of the list and change no other register; memory changes at most in
those cells, and where they are Ram they hold the listed registers in the order of spec/30_encoding.md R142, CC lowest
(R210, R211). -/
def Obligations.PushResults : Prop :=
  ∀ (pb : Byte) (s : State),
    (let base := s.regs.s - BitVec.ofNat 16 (listSize pb)
     ∃ t, exec (.pshs pb) s = .next t ∧ t.regs = { s.regs with s := base } ∧
      (∀ a, Outside base (listSize pb) a → t.peek a = s.peek a) ∧
      (RamFrom s base (listSize pb) → SameOutside s t ∧ Stored s t base (listBytes pb s.regs s.regs.u))) ∧
    (let base := s.regs.u - BitVec.ofNat 16 (listSize pb)
     ∃ t, exec (.pshu pb) s = .next t ∧ t.regs = { s.regs with u := base } ∧
      (∀ a, Outside base (listSize pb) a → t.peek a = s.peek a) ∧
      (RamFrom s base (listSize pb) → SameOutside s t ∧ Stored s t base (listBytes pb s.regs s.regs.s)))

/-- PULS and PULU move their pointer up by the size of the list and fill the listed registers from the bytes, CC first;
memory does not change; PULU of S arms NMI (R212, R213). -/
def Obligations.PullResults : Prop :=
  ∀ (pb : Byte) (s : State),
    (∃ t, exec (.puls pb) s = .next t ∧ t.mem = s.mem ∧ t.regs.s = s.regs.s + BitVec.ofNat 16 (listSize pb)) ∧
    (∃ t, exec (.pulu pb) s = .next t ∧ t.mem = s.mem ∧ t.regs.u = s.regs.u + BitVec.ofNat 16 (listSize pb)) ∧
    (PlainFrom s s.regs.s (listSize pb) →
      exec (.puls pb) s = .next { s with
        regs := { pulled pb putU (bytesFrom s s.regs.s (listSize pb)) s.regs with
                  s := s.regs.s + BitVec.ofNat 16 (listSize pb) } }) ∧
    (PlainFrom s s.regs.u (listSize pb) →
      exec (.pulu pb) s = .next { s with
        regs := { pulled pb putS (bytesFrom s s.regs.u (listSize pb)) s.regs with
                  u := s.regs.u + BitVec.ofNat 16 (listSize pb) }
        lines := { s.lines with nmiArmed := s.lines.nmiArmed || bit pb 6 } })

/-! ### Arithmetic and logic -/

/-- ADD, ADC, SUB, SBC, AND, OR, EOR of A and B, and CMP and BIT, in every mode: result and flags as integer arithmetic
gives them (spec/41_arithmetic.md R230, R231, R240 to R251, spec/42_logic_shift.md R300, R305 to R312). -/
def Obligations.AccumulatorOperations : Prop :=
  (∀ (op : AluOp) (k : Acc) (o : Operand8) (s : State),
    let m := s.operand8 o
    let r := Reference.alu op (m.2.regs.acc k) m.1 m.2.regs.cc
    exec (.alu op k o) s = .next { m.2 with regs := { m.2.regs.setAcc k r.1 with cc := r.2 } }) ∧
  ∀ (op : TestOp) (k : Acc) (o : Operand8) (s : State),
    let m := s.operand8 o
    exec (.test op k o) s =
      .next { m.2 with regs := { m.2.regs with cc := Reference.test op (m.2.regs.acc k) m.1 m.2.regs.cc } }

/-- ADDD, SUBD and the 16-bit compares in every mode, as integer arithmetic gives them (R232, R233, R244, R249, R252 to
R256). -/
def Obligations.SixteenBitArithmetic : Prop :=
  (∀ (o : Operand16) (s : State),
    let m := s.operand16 o
    let r := sum16 m.2.regs.d m.1 m.2.regs.cc
    exec (.addd o) s = .next { m.2 with regs := { m.2.regs.setD r.1 with cc := r.2 } }) ∧
  (∀ (o : Operand16) (s : State),
    let m := s.operand16 o
    let r := diff16 m.2.regs.d m.1 m.2.regs.cc
    exec (.subd o) s = .next { m.2 with regs := { m.2.regs.setD r.1 with cc := r.2 } }) ∧
  ∀ (k : Reg16) (o : Operand16) (s : State),
    let m := s.operand16 o
    exec (.cmp16 k o) s =
      .next { m.2 with regs := { m.2.regs with cc := (diff16 (m.2.regs.get k.reg) m.1 m.2.regs.cc).2 } }

/-- NEG, COM, LSR, ROR, ASR, ASL, ROL, DEC, INC of A and B (R260 to R268, R301, R320 to R339). -/
def Obligations.AccumulatorUnary : Prop :=
  ∀ (op : UnaryOp) (k : Acc) (s : State),
    let r := Reference.unary op (s.regs.acc k) s.regs.cc
    exec (.unaryAcc op k) s = .next { s with regs := { s.regs.setAcc k r.1 with cc := r.2 } }

/-- The same on memory in every mode: one read and one write of the operand's cell; memory changes at most there, and a
Ram cell takes the result (R235). -/
def Obligations.MemoryUnary : Prop :=
  ∀ (op : UnaryOp) (m : MemOperand) (s : State),
    let e := s.ea m
    let v := e.2.readByte e.1
    let r := Reference.unary op v.1 v.2.regs.cc
    let w := v.2.writeByte e.1 r.1
    exec (.unaryMem op m) s = .next { w with regs := { w.regs with cc := r.2 } } ∧
      w.regs = e.2.regs ∧ (∀ a, a ≠ e.1 → w.peek a = s.peek a) ∧ (s.tagOf e.1 = .ram → w.peek e.1 = r.1)

/-- CLR writes zero and reads nothing; TST reads and writes nothing; both on A, B and memory (R269 to R274). -/
def Obligations.ClearAndTest : Prop :=
  (∀ (m : MemOperand) (s : State),
    let e := s.ea m
    let w := e.2.writeByte e.1 0x00
    exec (.clr m) s = .next { w with
      regs := { w.regs with cc := { w.regs.cc with n := false, z := true, v := false, c := false } } } ∧
      w.regs = e.2.regs ∧ (∀ a, a ≠ e.1 → w.peek a = s.peek a) ∧ (s.tagOf e.1 = .ram → w.peek e.1 = 0x00)) ∧
  (∀ (m : MemOperand) (s : State),
    let e := s.ea m
    let v := e.2.readByte e.1
    exec (.tst m) s = .next { v.2 with regs := { v.2.regs with cc := value8 v.1 v.2.regs.cc } }) ∧
  (∀ (k : Acc) (s : State),
    exec (.clrAcc k) s = .next { s with
      regs := { s.regs.setAcc k 0x00 with cc := { s.regs.cc with n := false, z := true, v := false, c := false } } }) ∧
  ∀ (k : Acc) (s : State),
    exec (.tstAcc k) s = .next { s with regs := { s.regs with cc := value8 (s.regs.acc k) s.regs.cc } }

/-- MUL (R280). -/
def Obligations.MulResult : Prop :=
  encode .mul = [0x3D] ∧ ∀ s : State,
    let p := s.regs.a.toNat * s.regs.b.toNat
    p ≤ 0xFE01 ∧
    exec .mul s = .next { s with
      regs := { s.regs with
        a := BitVec.ofNat 8 (p / 256), b := BitVec.ofNat 8 (p % 256),
        cc := { s.regs.cc with z := decide (p = 0), c := decide (128 ≤ p % 256) } } }

/-- DAA (R281); V is cleared or unchanged, by the parameter P_DAA_V. -/
def Obligations.DaaResult : Prop :=
  encode .daa = [0x19] ∧ ∀ s : State,
    let lo := s.regs.a.toNat % 16
    let hi := s.regs.a.toNat / 16
    let low := s.regs.cc.h = true ∨ 9 < lo
    let high := s.regs.cc.c = true ∨ 9 < hi ∨ (8 < hi ∧ 9 < lo)
    let r : Byte := BitVec.ofNat 8 (s.regs.a.toNat + (if low then 6 else 0) + (if high then 96 else 0))
    exec .daa s = .next { s with
      regs := { s.regs with
        a := r
        cc := { signZero8 r s.regs.cc with
                c := decide high, v := if Config.daaClearsV then false else s.regs.cc.v } } }

/-- SEX (R282), where V is cleared or unchanged by the parameter P_SEX_V, and ABX (R283). -/
def Obligations.SexAndAbxResults : Prop :=
  encode .sex = [0x1D] ∧ encode .abx = [0x3A] ∧
  (∀ s : State,
    exec .sex s = .next { s with
      regs := { s.regs with
        a := BitVec.ofNat 8 (255 * (decide (128 ≤ s.regs.b.toNat)).toNat)
        cc := { signZero8 s.regs.b s.regs.cc with v := if Config.sexClearsV then false else s.regs.cc.v } } }) ∧
  ∀ s : State,
    exec .abx s = .next { s with regs := { s.regs with x := BitVec.ofNat 16 (s.regs.x.toNat + s.regs.b.toNat) } }

/-- ADDA of two-digit decimal numbers followed by DAA is their decimal sum, with the carry in C (R240, R281). -/
def Obligations.DecimalAddition : Prop :=
  ∀ (x y : Nat) (s : State), x < 100 → y < 100 →
    let bcd : Nat → Byte := fun n => BitVec.ofNat 8 (16 * (n / 10) + n % 10)
    s.regs.a = bcd x →
    ∃ t u, exec (.addaImm (bcd y)) s = .next t ∧ exec .daa t = .next u ∧
      u.regs.a = bcd ((x + y) % 100) ∧ u.regs.cc.c = decide (100 ≤ x + y)

/-- ANDCC, ORCC, bit by bit of CC as a byte, and NOP (R37, R313, R314, spec/44_system.md R410). -/
def Obligations.ConditionCodeLogic : Prop :=
  (∀ b : Byte, (CC.ofByte b).toByte = b) ∧ (∀ cc : CC, CC.ofByte cc.toByte = cc) ∧
  (∀ (m : Byte) (s : State), encode (.andcc m) = [0x1C, m] ∧
    ∃ cc, exec (.andcc m) s = .next { s with regs := { s.regs with cc := cc } } ∧
      cc.toByte = s.regs.cc.toByte &&& m) ∧
  (∀ (m : Byte) (s : State), encode (.orcc m) = [0x1A, m] ∧
    ∃ cc, exec (.orcc m) s = .next { s with regs := { s.regs with cc := cc } } ∧
      cc.toByte = s.regs.cc.toByte ||| m) ∧
  encode .nop = [0x12] ∧ ∀ s : State, exec .nop s = .next s

/-- D is A:B: writing one is seen in the other (spec/10_state.md R31). -/
def Obligations.DoubleAccumulator : Prop :=
  ∀ (r : Regs) (v : Word),
    (r.get .d).toNat = 256 * r.a.toNat + r.b.toNat ∧
    (r.put .d v).get .d = v ∧
    r.put .d v = { r with a := BitVec.ofNat 8 (v.toNat / 256), b := BitVec.ofNat 8 v.toNat } ∧
    ((r.put .a v).get .d).toNat = 256 * (v.toNat % 256) + r.b.toNat ∧
    ((r.put .b v).get .d).toNat = 256 * r.a.toNat + v.toNat % 256

/-! ### Control transfer -/

/-- Every short and long branch: PC moves by the signed offset exactly when its condition holds, and nothing else changes
(spec/43_control_transfer.md R360, R361). -/
def Obligations.Branches : Prop :=
  ∀ (c : Cond) (s : State),
    (∀ off : Byte, exec (.shortBranch c off) s = .next { s with
      regs := { s.regs with
        pc := if condition c s.regs.cc then BitVec.ofInt 16 (s.regs.pc.toNat + off.toInt) else s.regs.pc } }) ∧
    ∀ off : Word, exec (.longBranch c off) s = .next { s with
      regs := { s.regs with
        pc := if condition c s.regs.cc then BitVec.ofInt 16 (s.regs.pc.toNat + off.toInt) else s.regs.pc } }

/-- After a compare of A with a byte the unsigned and the signed branches follow the order of the two numbers (R250,
R360). -/
def Obligations.CompareThenBranch : Prop :=
  ∀ (m : Byte) (s : State), ∃ t, exec (.cmpaImm m) s = .next t ∧
    let a := s.regs.a
    (condition .hi t.regs.cc = true ↔ m.toNat < a.toNat) ∧ (condition .ls t.regs.cc = true ↔ a.toNat ≤ m.toNat) ∧
    (condition .hs t.regs.cc = true ↔ m.toNat ≤ a.toNat) ∧ (condition .lo t.regs.cc = true ↔ a.toNat < m.toNat) ∧
    (condition .gt t.regs.cc = true ↔ m.toInt < a.toInt) ∧ (condition .le t.regs.cc = true ↔ a.toInt ≤ m.toInt) ∧
    (condition .ge t.regs.cc = true ↔ m.toInt ≤ a.toInt) ∧ (condition .lt t.regs.cc = true ↔ a.toInt < m.toInt) ∧
    (condition .eq t.regs.cc = true ↔ a = m) ∧ (condition .ne t.regs.cc = true ↔ a ≠ m)

/-- JMP takes the effective address; JSR, BSR and LBSR push the address after them and go to the target; RTS pulls PC
(R400 to R404). -/
def Obligations.JumpsAndCalls : Prop :=
  (∀ (m : MemOperand) (s : State),
    let e := s.ea m
    exec (.jmp m) s = .next { e.2 with regs := { e.2.regs with pc := e.1 } }) ∧
  (∀ (m : MemOperand) (s : State),
    let e := s.ea m
    let base := e.2.regs.s - 2#16
    ∃ t, exec (.jsr m) s = .next t ∧ t.regs = { e.2.regs with s := base, pc := e.1 } ∧
      (∀ a, Outside base 2 a → t.peek a = s.peek a) ∧
      (RamFrom s base 2 → SameOutside e.2 t ∧ Stored s t base (wordBytes s.regs.pc))) ∧
  (∀ (off : Byte) (s : State),
    let base := s.regs.s - 2#16
    ∃ t, exec (.bsr off) s = .next t ∧
      t.regs = { s.regs with s := base, pc := BitVec.ofInt 16 (s.regs.pc.toNat + off.toInt) } ∧
      (∀ a, Outside base 2 a → t.peek a = s.peek a) ∧
      (RamFrom s base 2 → SameOutside s t ∧ Stored s t base (wordBytes s.regs.pc))) ∧
  (∀ (off : Word) (s : State),
    let base := s.regs.s - 2#16
    ∃ t, exec (.lbsr off) s = .next t ∧
      t.regs = { s.regs with s := base, pc := BitVec.ofInt 16 (s.regs.pc.toNat + off.toInt) } ∧
      (∀ a, Outside base 2 a → t.peek a = s.peek a) ∧
      (RamFrom s base 2 → SameOutside s t ∧ Stored s t base (wordBytes s.regs.pc))) ∧
  ∀ s : State,
    (∃ t, exec .rts s = .next t ∧ t.mem = s.mem ∧ t.regs = { s.regs with s := s.regs.s + 2#16, pc := t.regs.pc }) ∧
    (PlainFrom s s.regs.s 2 →
      exec .rts s = .next { s with regs := { s.regs with s := s.regs.s + 2#16, pc := wordAt s s.regs.s } })

/-! ### Exceptions -/

/-- SWI, SWI2, SWI3: E is set, the entire state pushed, PC taken from the vector; SWI alone sets I and F (R414, R415,
R416). -/
def Obligations.SoftwareInterrupts : Prop :=
  ∀ s : State,
    let cc := { s.regs.cc with e := true }
    let frame := entireFrame { s.regs with cc := cc }
    (∃ t, exec .swi s = .next t ∧ Entered 0xFFFA { cc with i := true, f := true } frame s t) ∧
    (∃ t, exec .swi2 s = .next t ∧ Entered 0xFFF4 cc frame s t) ∧
    ∃ t, exec .swi3 s = .next t ∧ Entered 0xFFF2 cc frame s t

/-- CWAI masks CC, sets E, pushes the entire state and waits; SYNC only begins to wait (R412, R413). -/
def Obligations.WaitInstructions : Prop :=
  (∀ s : State, exec .sync s = .next { s with cpuState := .syncing }) ∧
  ∀ (m : Byte) (s : State), ∃ (t : State) (cc : CC),
    exec (.cwai m) s = .next t ∧ cc.toByte = (s.regs.cc.toByte &&& m) ||| 0x80#8 ∧
    t.cpuState = .waitingInterrupt ∧ t.regs = { s.regs with s := s.regs.s - 12#16, cc := cc } ∧
    (∀ a, Outside (s.regs.s - 12#16) 12 a → t.peek a = s.peek a) ∧
    (RamFrom s (s.regs.s - 12#16) 12 →
      t = { s with regs := t.regs, mem := t.mem, cpuState := .waitingInterrupt } ∧
      Stored s t (s.regs.s - 12#16) (entireFrame { s.regs with cc := cc }))

/-- RTI pulls CC, and the entire state exactly when the pulled E is 1, then PC; memory does not change (R417, R447). -/
def Obligations.ReturnFromInterrupt : Prop :=
  ∀ s : State,
    (∃ t, exec .rti s = .next t ∧ t.mem = s.mem) ∧
    (bit (s.peek s.regs.s) 7 = true → PlainFrom s s.regs.s 12 →
      exec .rti s = .next { s with
        regs := { pulled 0xFF putU (bytesFrom s s.regs.s 12) s.regs with s := s.regs.s + 12#16 } }) ∧
    (bit (s.peek s.regs.s) 7 = false → PlainFrom s s.regs.s 3 →
      exec .rti s = .next { s with
        regs := { pulled 0x81 putU (bytesFrom s s.regs.s 3) s.regs with s := s.regs.s + 3#16 } })

/-- Which request a step takes: NMI when latched and armed, else FIRQ when latched and F is 0, else IRQ when latched and I
is 0 (spec/60_exceptions.md R436, R437). -/
def Obligations.AcceptableRequests : Prop :=
  ∀ s : State,
    let nmi := s.lines.nmiReq = true ∧ s.lines.nmiArmed = true
    let firq := s.lines.firqReq = true ∧ s.regs.cc.f = false
    let irq := s.lines.irqReq = true ∧ s.regs.cc.i = false
    (s.acceptable = some .nmi ↔ nmi) ∧ (s.acceptable = some .firq ↔ ¬ nmi ∧ firq) ∧
    (s.acceptable = some .irq ↔ ¬ nmi ∧ ¬ firq ∧ irq) ∧ (s.acceptable = none ↔ ¬ nmi ∧ ¬ firq ∧ ¬ irq)

/-- The entry of an interrupt: its latch is cleared, E written, the frame pushed, the masks set, PC taken from the vector
(R440). -/
def Obligations.InterruptEntry : Prop :=
  ∀ s : State, s.exe.suspended = false → s.cpuState = .running →
    (s.acceptable = some .nmi → ∃ t, cpuStep s = .next t ∧
      Entered 0xFFFC { s.regs.cc with e := true, i := true, f := true }
        (entireFrame { s.regs with cc := { s.regs.cc with e := true } })
        { s with lines := { s.lines with nmiReq := false } } t) ∧
    (s.acceptable = some .firq → ∃ t, cpuStep s = .next t ∧
      Entered 0xFFF6 { s.regs.cc with e := false, i := true, f := true }
        (shortFrame { s.regs with cc := { s.regs.cc with e := false } })
        { s with lines := { s.lines with firqReq := false } } t) ∧
    (s.acceptable = some .irq → ∃ t, cpuStep s = .next t ∧
      Entered 0xFFF8 { s.regs.cc with e := true, i := true }
        (entireFrame { s.regs with cc := { s.regs.cc with e := true } })
        { s with lines := { s.lines with irqReq := false } } t)

/-- An interrupt followed by RTI gives every register back, CC with the E of the entry, on a stack in Ram (R440, R447). -/
def Obligations.InterruptThenReturn : Prop :=
  ∀ (s : State) (e : Event), s.exe.suspended = false → s.cpuState = .running → s.acceptable = some e →
    RamFrom s (s.regs.s - 12#16) 12 → PlainFrom s e.vector 2 →
    ∃ t u, cpuStep s = .next t ∧ exec .rti t = .next u ∧
      u.regs = { s.regs with cc := { s.regs.cc with e := e.entire } } ∧
      ∀ a, Outside (s.regs.s - 12#16) 12 a → u.peek a = s.peek a

/-- The CPU while it waits: CWAI ends by an acceptable request, which enters without a push; SYNC ends by any latch;
HALTED and EXCEPTION do nothing (R430, R441, R442). -/
def Obligations.WaitingStates : Prop :=
  ∀ s : State, s.exe.suspended = false →
    (s.cpuState = .waitingInterrupt → s.acceptable = none → cpuStep s = .next s) ∧
    (∀ e : Event, s.cpuState = .waitingInterrupt → s.acceptable = some e → PlainFrom s e.vector 2 →
      cpuStep s = .next { s with
        cpuState := .running
        lines := { s.lines with
          nmiReq := s.lines.nmiReq && e != .nmi
          firqReq := s.lines.firqReq && e != .firq
          irqReq := s.lines.irqReq && e != .irq }
        regs := { s.regs with
          pc := wordAt s e.vector
          cc := { s.regs.cc with i := true, f := s.regs.cc.f || e != .irq } } }) ∧
    (s.cpuState = .syncing →
      cpuStep s = .next (if s.lines.nmiReq || s.lines.firqReq || s.lines.irqReq then
        { s with cpuState := .running } else s)) ∧
    (s.cpuState = .halted ∨ s.cpuState = .exception → cpuStep s = .next s)

/-! ### Peripherals -/

/-- The registers of a PIA: bit 2 of a control register selects between the data and the direction register, a control
write changes bits 5..0 only, a data read gives OR bits on output lines and pins on input lines and clears both flags
(spec/61_pia.md R481, R482, R487, R492). -/
def Obligations.PiaRegisters : Prop :=
  ∀ (id : PiaId) (s : State) (v : Byte),
    let p := s.pia id
    (s.writePia id 0 v).pia id = (if bit p.cra 2 then { p with ora := v } else { p with ddra := v }) ∧
    (s.writePia id 1 v).pia id = { p with cra := BitVec.ofNat 8 (64 * (p.cra.toNat / 64) + v.toNat % 64) } ∧
    (s.writePia id 2 v).pia id = (if bit p.crb 2 then { p with orb := v } else { p with ddrb := v }) ∧
    (s.writePia id 3 v).pia id = { p with crb := BitVec.ofNat 8 (64 * (p.crb.toNat / 64) + v.toNat % 64) } ∧
    s.readPia id 1 = (p.cra, s) ∧ s.readPia id 3 = (p.crb, s) ∧
    (bit p.cra 2 = false → s.readPia id 0 = (p.ddra, s)) ∧ (bit p.crb 2 = false → s.readPia id 2 = (p.ddrb, s)) ∧
    (bit p.cra 2 = true →
      (s.readPia id 0).2.pia id = { p with cra := BitVec.ofNat 8 (p.cra.toNat % 64) } ∧
      ∀ k < 8, bit (s.readPia id 0).1 k = if bit p.ddra k then bit p.ora k else bit (s.pinsA id).1 k) ∧
    (bit p.crb 2 = true →
      (s.readPia id 2).2.pia id = { p with crb := BitVec.ofNat 8 (p.crb.toNat % 64) } ∧
      ∀ k < 8, bit (s.readPia id 2).1 k = if bit p.ddrb k then bit p.orb k else bit s.pinsB.1 k)

/-- A CB1 event sets CRB[7] and, when CRB[0] enables it, the CPU's latch: IRQ for PIA0, FIRQ for PIA1; when it does not, no
latch. Nothing else changes (R483, R488, R489, R490, R498, R499). -/
def Obligations.PiaEvents : Prop :=
  ∀ s : State,
    (let on := bit s.dev.pia0.crb 0
     s.dev.pia0.Ok →
      s.cb1Event .pia0 = { s with
        dev := { s.dev with pia0 := { s.dev.pia0 with crb := s.dev.pia0.crb ||| 0x80#8 } }
        lines := { s.lines with irqReq := s.lines.irqReq || on } }) ∧
    (let on := bit s.dev.pia1.crb 0
     s.dev.pia1.Ok →
      s.cb1Event .pia1 = { s with
        dev := { s.dev with pia1 := { s.dev.pia1 with crb := s.dev.pia1.crb ||| 0x80#8 } }
        lines := { s.lines with firqReq := s.lines.firqReq || on } })

/-- A keyboard row reads 0 exactly when a strobed column has its key pressed, for the rows 1 to 6 as inputs (R493). -/
def Obligations.KeyboardRows : Prop :=
  ∀ (s : State) (r : Nat), 1 ≤ r → r ≤ 6 → bit s.dev.pia0.cra 2 = true → bit s.dev.pia0.ddra r = false →
    (bit (s.readPia .pia0 0).1 r = false ↔
      ∃ c : Fin 8, bit s.dev.pia0.ddrb c = true ∧ bit s.dev.pia0.orb c = false ∧ (s.dev.kbd[c]).getLsbD r = true)

/-- A write to 0xFFC0 + 2k + b sets the SAM's bit k to b, whatever is written, and changes nothing else; a read changes no
SAM bit (spec/62_sam_vdg.md R532). The form of the value read, a host draw, is the model's (log 6). -/
def Obligations.SamToggles : Prop :=
  ∀ (s : State) (k : Nat) (b : Bool) (v : Byte), k < 16 →
    let a : Word := BitVec.ofNat 16 (0xFFC0 + 2 * k + b.toNat)
    s.tagOf a = .io (some .sam) →
    (∃ sam : BitVec 16, s.writeByte a v = { s with dev := { s.dev with sam := sam } } ∧
      ∀ j < 16, sam.getLsbD j = if j = k then b else s.dev.sam.getLsbD j) ∧
    (s.readByte a).1 = Config.samReadByte s.host.draws ∧ (s.readByte a).2.dev = s.dev

/-- The render reads only `base + i` with i < 6144, which lies in 0x0000–0x95FF, Ram and Rom cells after init: byte i of the
window is the cell at `base + i`, base being 512 times F5..F0, and two states with the same mode, base and cells there render
the same frame, in a mode with a rule (R533, R538, R540, R549). That the render reads the cells and not through their tags,
whatever the map, is deduced from R538 (log 22). -/
def Obligations.VideoWindow : Prop :=
  (∀ sam : BitVec 16,
    let o := sam.toNat / 8 % 64
    o ≤ 63 ∧ videoBase sam = 512 * o ∧ ∀ i < 6144, videoBase sam + i ≤ 0x95FF) ∧
  (∀ a ≤ 0x95FF, tagAt (initTags []) a = .ram ∨ tagAt (initTags []) a = .rom) ∧
  (∀ (sam : BitVec 16) (pm : Byte) (css : Bool) (mem mem' : Nat → Byte) (y x : Nat), y < 192 → x < 256 →
    (∀ i < 6144, mem i = mem' i) →
    pixel (currentMode (videoMode sam) pm) css mem y x = pixel (currentMode (videoMode sam) pm) css mem' y x) ∧
  (∀ (s : State) (i : Nat), i < 6144 → s.videoByte i = s.peek (BitVec.ofNat 16 (videoBase s.dev.sam + i))) ∧
  ∀ s t : State, t.dev.sam = s.dev.sam → t.dev.piaVideoMode = s.dev.piaVideoMode →
    (∀ i < 6144, t.peek (BitVec.ofNat 16 (videoBase s.dev.sam + i)) = s.peek (BitVec.ofNat 16 (videoBase s.dev.sam + i))) →
    let mode := currentMode (videoMode s.dev.sam) s.dev.piaVideoMode
    mode ≠ .uncovered → mode ≠ .dma → t.render.dev.frame = s.render.dev.frame

/-- A render in a mode with a rule replaces every byte of the frame by the colour of its pixel, changes nothing else, and
is idempotent (R541, R549). That it reads the cells and not through their tags is deduced from R538 (log 22). -/
def Obligations.RenderReplacesFrame : Prop :=
  ∀ s : State,
    let mode := currentMode (videoMode s.dev.sam) s.dev.piaVideoMode
    mode ≠ .uncovered → mode ≠ .dma →
    ∃ bytes : List Byte,
      s.render = { s with dev := { s.dev with frame := .rendered bytes } } ∧ s.render.render = s.render ∧
      bytes.length = 192 * 256 ∧
      ∀ y x, y < 192 → x < 256 →
        bytes[256 * y + x]? = some (palette (pixel mode (bit s.dev.piaVideoMode 3) s.videoByte y x))

/-- A write of 0xFF48: drive and each flag are the bits that the machine's layout of the latch names, complemented where
it says so; the default layout gives drive from bits 1..0, the motor from bit 2, and the complements of bit 3 and bit 5 as
double density and NMI inhibit; the host's LED follows the motor, and nothing else changes (spec/63_disk.md R585). The
form of a layout other than the default is the model's choice (log 11). -/
def Obligations.DriveLatch : Prop :=
  ∀ (s : State) (v : Byte), s.tagOf 0xFF48 = .io (some .wd2797) →
    let t := s.writeByte 0xFF48 v
    let p := s.dev.latchLayout
    let flag : LatchBit → Bool := fun b => if b.inverted then !bit v b.index.val else bit v b.index.val
    t = { s with
      dev := { s.dev with disk := { s.dev.disk with
        drive := t.dev.disk.drive, motorOn := t.dev.disk.motorOn, doubleDensity := t.dev.disk.doubleDensity
        nmiInhibit := t.dev.disk.nmiInhibit } }
      host := { s.host with calls :=
        (if t.dev.disk.motorOn then .motorLedOn 0x01 else .motorLedOff 0x01) :: s.host.calls } } ∧
    t.dev.disk.drive.toNat = 2 * (flag p.drive1).toNat + (flag p.drive0).toNat ∧
    t.dev.disk.motorOn = flag p.motorOn ∧ t.dev.disk.doubleDensity = flag p.doubleDensity ∧
    t.dev.disk.nmiInhibit = flag p.nmiInhibit ∧
    (p = .dragonDos →
      t.dev.disk.drive.toNat = v.toNat % 4 ∧ t.dev.disk.motorOn = bit v 2 ∧ t.dev.disk.doubleDensity = !bit v 3 ∧
        t.dev.disk.nmiInhibit = !bit v 5)

/-- READ SECTOR of a valid sector: the 256 reads of DATA give the 256 bytes of the image at its offset, and then the
controller is idle, not Busy, its completion armed (spec/63_disk.md R588, R592, R594). -/
def Obligations.ReadSector : Prop :=
  ∀ (s : State) (v : Byte), v.extractLsb' 4 4 = 0x8#4 → s.dev.image.kind ≠ .none →
    let d := s.dev.disk
    let side := if bit v 1 then 1 else 0
    let o := s.dev.vdk.headerSize + (d.track.toNat * s.dev.vdk.sides + side) * 4608 + (d.sector.toNat - 1) * 256
    diskValid s.dev d.track.toNat side d.sector.toNat 256 = true →
    let q := readData 256 (s.writeDisk 0 v)
    q.1 = Memory.readList s.dev.image.bytes o 256 ∧
      q.2.dev.disk.diskState = .idle ∧ q.2.dev.disk.status = 0x00 ∧ q.2.dev.disk.intrqArmed = true ∧
      q.2.dev.disk.idleTicks = 0 ∧ q.2.dev.image = s.dev.image

/-- WRITE SECTOR of a valid sector: after 256 writes of DATA the image holds these bytes at the sector's offset and is
otherwise unchanged; the controller is idle, its completion armed. Before the last write nothing of it has reached the
image (R588, R593, R595). -/
def Obligations.WriteSector : Prop :=
  ∀ (s : State) (v : Byte) (bs : List Byte), v.extractLsb' 4 4 = 0xA#4 → s.dev.image.kind ≠ .none →
    let d := s.dev.disk
    let side := if bit v 1 then 1 else 0
    let o := s.dev.vdk.headerSize + (d.track.toNat * s.dev.vdk.sides + side) * 4608 + (d.sector.toNat - 1) * 256
    diskValid s.dev d.track.toNat side d.sector.toNat 256 = true →
    (bs.length < 256 → (writeData bs (s.writeDisk 0 v)).dev.image = s.dev.image) ∧
    (bs.length = 256 →
      let t := writeData bs (s.writeDisk 0 v)
      (∀ i, Memory.read t.dev.image.bytes i =
        if o ≤ i ∧ i < o + 256 then bs.getD (i - o) 0x00 else Memory.read s.dev.image.bytes i) ∧
      t.dev.image.length = s.dev.image.length ∧ t.dev.disk.diskState = .idle ∧ t.dev.disk.status = 0x00 ∧
      t.dev.disk.intrqArmed = true ∧ t.dev.disk.idleTicks = 0)

/-- The completion NMI: with the controller idle and its completion just armed, no tick before the 250th requests NMI, and
the 250th does exactly when it is not inhibited; a tick during a transfer sets DRQ and is a CB1 event of PIA1 (R600,
R601). -/
def Obligations.DiskTicks : Prop :=
  ∀ s : State,
    (s.dev.disk.diskState ≠ .idle →
      s.diskTick = ({ s with dev := { s.dev with
        disk := { s.dev.disk with status := s.dev.disk.status ||| 0x02#8 } } }).cb1Event .pia1) ∧
    (s.dev.disk.diskState = .idle → s.dev.disk.intrqArmed = true → s.dev.disk.idleTicks = 0 →
      (∀ n < 250, (ticks n s).lines = s.lines) ∧
      (ticks 250 s).lines = { s.lines with nmiReq := s.lines.nmiReq || !s.dev.disk.nmiInhibit } ∧
      (ticks 250 s).dev.disk.intrqArmed = false)

/-- A transfer in progress is Busy: so it is at reset, and every step keeps it so (R603). -/
def Obligations.TransferIsBusy : Prop :=
  (State.reset.dev.disk.diskState ≠ .idle → bit State.reset.dev.disk.status 0 = true) ∧
  ∀ s t : State, (s.dev.disk.diskState ≠ .idle → bit s.dev.disk.status 0 = true) → step s = .next t →
    t.dev.disk.diskState ≠ .idle → bit t.dev.disk.status 0 = true

/-- A complete cassette stream leaves the trap idle and writes exactly one file, whose bytes are the whole stream
(spec/64_tape_trap.md R641). -/
def Obligations.TapeStream : Prop :=
  ∀ (k i : Nat) (header : List Byte) (hsum esum : Byte) (blocks : List DataBlock),
    1 ≤ k → header.length < 256 → (∀ d ∈ blocks, d.payload.length < 256) →
    let stream := tapeStream k header hsum blocks i esum
    stream.length ≤ captureLimit →
    ∃ name : List Byte,
      feedAll stream Tape.reset = (Tape.reset, [(name, stream)]) ∧ name = (header.take 8).filter isAlnum

/-! ### The executive -/

/-- Reset: the peripherals are reset, the latches cleared, NMI disarmed, I and F set, the CPU runs from the reset vector.
A warm reset keeps every other register; a cold one clears DP and draws the rest. Memory, tags, SAM, VDG, keyboard and the
image are kept (spec/70_reset_and_hazards.md R670, R672, spec/10_state.md R57). That the track buffer and
`xfer_offset`, to which the spec gives no value after a reset, are zero afterwards is the model's choice (logs 15, 34); the
draws of a cold reset are free values (log 8). -/
def Obligations.ResetValues : Prop :=
  ∀ s : State, PlainFrom s 0xFFFE 2 →
    let dev := { s.dev with pia0 := Pia.reset, pia1 := Pia.reset, disk := Disk.reset, tape := Tape.reset }
    let exe := { s.exe with suspended := false, resetPressedAt := none }
    s.executiveReset .warm = { s with
      dev := dev, exe := exe, cpuState := .running, lines := ⟨false, false, false, false⟩
      regs := { s.regs with pc := wordAt s 0xFFFE, cc := { s.regs.cc with i := true, f := true } } } ∧
    ∃ r : Regs, r.dp = 0x00 ∧ r.pc = wordAt s 0xFFFE ∧ r.cc.i = true ∧ r.cc.f = true ∧
      s.executiveReset .cold = { s with
        dev := dev, exe := exe, cpuState := .running, lines := ⟨false, false, false, false⟩, regs := r
        host := { s.host with draws := s.host.draws + 1 } }

/-- The reset button acts when it is released: a press of less than 1.5 s is a warm reset, a longer one writes 0x00 to
0x0071 over the bus and is a cold reset; while it is held, and while it stays released, nothing is reset (spec/65_executive.md
R656). -/
def Obligations.ResetButton : Prop :=
  ∀ (s : State) (now : BitVec 32),
    (s.exe.resetPressedAt = none → s.pollReset true now = s) ∧
    (s.exe.resetPressedAt = none →
      s.pollReset false now = { s with exe := { s.exe with resetPressedAt := some now } }) ∧
    ∀ t0 : BitVec 32, s.exe.resetPressedAt = some t0 →
      let released := { s with exe := { s.exe with resetPressedAt := none } }
      s.pollReset false now = s ∧
      ((now.toNat + 2 ^ 32 - t0.toNat) % 2 ^ 32 < 1500000 → s.pollReset true now = released.executiveReset .warm) ∧
      (1500000 ≤ (now.toNat + 2 ^ 32 - t0.toNat) % 2 ^ 32 →
        s.pollReset true now = (released.writeByte 0x0071 0x00).executiveReset .cold)
end

