-- ==== Sys2Proof/Laws/Memory.lean ====
section
/-! SUPPORT. Read after write, and the canonical form: every memory operation keeps it. -/

namespace Sys2Proof.Machine

theorem Memory.read_insert (m : Memory) (a b : Nat) (v : Byte) :
    Memory.read (Memory.insert m a v) b = if b = a then v else Memory.read m b := by
  induction m with
  | nil =>
    by_cases h : b = a
    · simp [Memory.insert, Memory.read, h]
    · simp [Memory.insert, Memory.read, h, Ne.symm h]
  | cons c rest ih =>
    obtain ⟨k, w⟩ := c
    simp only [Memory.insert]
    split
    · by_cases h : b = a
      · simp [Memory.read, h]
      · simp [Memory.read, h, Ne.symm h]
    · split
      · next h1 h2 =>
        subst h2
        by_cases h : b = k
        · simp [Memory.read, h]
        · simp [Memory.read, h, Ne.symm h]
      · next h1 h2 =>
        simp only [Memory.read, ih]
        by_cases h : k = b
        · subst h
          simp [h2]
        · simp [h]

theorem Memory.read_erase (m : Memory) (a b : Nat) :
    Memory.read (Memory.erase m a) b = if b = a then Memory.unlisted else Memory.read m b := by
  induction m with
  | nil => simp [Memory.erase, Memory.read]
  | cons c rest ih =>
    obtain ⟨k, w⟩ := c
    simp only [Memory.erase]
    split
    · next h =>
      subst h
      rw [ih]
      by_cases hb : b = k
      · simp [hb]
      · simp [Memory.read, hb, Ne.symm hb]
    · next h =>
      simp only [Memory.read, ih]
      by_cases hb : k = b
      · subst hb
        simp [h]
      · simp [hb]

/-- Read after write. -/
theorem Memory.read_write (m : Memory) (a b : Nat) (v : Byte) :
    Memory.read (Memory.write m a v) b = if b = a then v else Memory.read m b := by
  unfold Memory.write
  split
  · next h => rw [Memory.read_erase, h]
  · rw [Memory.read_insert]

theorem Memory.read_write_same (m : Memory) (a : Nat) (v : Byte) : Memory.read (Memory.write m a v) a = v := by
  simp [Memory.read_write]

theorem Memory.read_write_other (m : Memory) {a b : Nat} (v : Byte) (h : b ≠ a) :
    Memory.read (Memory.write m a v) b = Memory.read m b := by
  simp [Memory.read_write, h]

theorem Memory.wfFrom_mono {lo lo' : Nat} {m : Memory} (h : lo' ≤ lo) (hm : Memory.wfFrom lo m = true) :
    Memory.wfFrom lo' m = true := by
  cases m with
  | nil => rfl
  | cons c rest =>
    obtain ⟨k, w⟩ := c
    simp only [Memory.wfFrom, Bool.and_eq_true, decide_eq_true_eq] at hm ⊢
    exact ⟨⟨le_trans h hm.1.1, hm.1.2⟩, hm.2⟩

theorem Memory.wfFrom_insert {m : Memory} {lo a : Nat} {v : Byte} (hv : v ≠ Memory.unlisted) (ha : lo ≤ a)
    (hm : Memory.wfFrom lo m = true) : Memory.wfFrom lo (Memory.insert m a v) = true := by
  induction m generalizing lo with
  | nil => simp [Memory.insert, Memory.wfFrom, hv, ha]
  | cons c rest ih =>
    obtain ⟨k, w⟩ := c
    simp only [Memory.wfFrom, Bool.and_eq_true, decide_eq_true_eq] at hm
    obtain ⟨⟨h1, h2⟩, h3⟩ := hm
    simp only [Memory.insert]
    split
    · next hlt =>
      simp only [Memory.wfFrom, Bool.and_eq_true, decide_eq_true_eq]
      exact ⟨⟨ha, hv⟩, ⟨⟨hlt, h2⟩, h3⟩⟩
    · split
      · next _ heq =>
        subst heq
        simp only [Memory.wfFrom, Bool.and_eq_true, decide_eq_true_eq]
        exact ⟨⟨ha, hv⟩, h3⟩
      · next hlt hne =>
        simp only [Memory.wfFrom, Bool.and_eq_true, decide_eq_true_eq]
        exact ⟨⟨h1, h2⟩, ih (by omega) h3⟩

theorem Memory.wfFrom_erase {m : Memory} {lo a : Nat} (hm : Memory.wfFrom lo m = true) :
    Memory.wfFrom lo (Memory.erase m a) = true := by
  induction m generalizing lo with
  | nil => rfl
  | cons c rest ih =>
    obtain ⟨k, w⟩ := c
    simp only [Memory.wfFrom, Bool.and_eq_true, decide_eq_true_eq] at hm
    simp only [Memory.erase]
    split
    · exact ih (Memory.wfFrom_mono (by omega) hm.2)
    · simp only [Memory.wfFrom, Bool.and_eq_true, decide_eq_true_eq]
      exact ⟨hm.1, ih hm.2⟩

/-- A write keeps the canonical form. -/
theorem Memory.wf_write {m : Memory} (a : Nat) (v : Byte) (hm : m.wf = true) : (Memory.write m a v).wf = true := by
  unfold Memory.write
  split
  · exact Memory.wfFrom_erase hm
  · next h => exact Memory.wfFrom_insert h (Nat.zero_le _) hm

theorem Memory.below_insert {m : Memory} {n a : Nat} {v : Byte} (ha : a < n) (hm : m.below n = true) :
    (Memory.insert m a v).below n = true := by
  induction m with
  | nil => simp [Memory.insert, Memory.below, ha]
  | cons c rest ih =>
    obtain ⟨k, w⟩ := c
    simp only [Memory.below, List.all_cons, Bool.and_eq_true, decide_eq_true_eq] at hm ih
    simp only [Memory.insert]
    split
    · simpa [Memory.below, ha] using hm
    · split
      · simp only [Memory.below, List.all_cons, Bool.and_eq_true, decide_eq_true_eq]
        exact ⟨ha, hm.2⟩
      · simp only [Memory.below, List.all_cons, Bool.and_eq_true, decide_eq_true_eq]
        exact ⟨hm.1, ih hm.2⟩

theorem Memory.below_erase {m : Memory} {n a : Nat} (hm : m.below n = true) : (Memory.erase m a).below n = true := by
  induction m with
  | nil => rfl
  | cons c rest ih =>
    obtain ⟨k, w⟩ := c
    simp only [Memory.below, List.all_cons, Bool.and_eq_true, decide_eq_true_eq] at hm ih
    simp only [Memory.erase]
    split
    · exact ih hm.2
    · simp only [Memory.below, List.all_cons, Bool.and_eq_true, decide_eq_true_eq]
      exact ⟨hm.1, ih hm.2⟩

/-- A write below a bound keeps the bound. -/
theorem Memory.below_write {m : Memory} {n a : Nat} (v : Byte) (ha : a < n) (hm : m.below n = true) :
    (Memory.write m a v).below n = true := by
  unfold Memory.write
  split
  · exact Memory.below_erase hm
  · exact Memory.below_insert ha hm

/-- Writing a list of bytes keeps the canonical form. -/
theorem Memory.wf_writeList {m : Memory} (a : Nat) (bs : List Byte) (hm : m.wf = true) :
    (Memory.writeList m a bs).wf = true := by
  induction bs generalizing m a with
  | nil => exact hm
  | cons b rest ih => exact ih _ (Memory.wf_write a b hm)

theorem Memory.below_writeList {m : Memory} {n a : Nat} (bs : List Byte) (ha : a + bs.length ≤ n)
    (hm : m.below n = true) : (Memory.writeList m a bs).below n = true := by
  induction bs generalizing m a with
  | nil => exact hm
  | cons b rest ih =>
    simp only [List.length_cons] at ha
    exact ih (by omega) (Memory.below_write b (by omega) hm)

/-- What is read after a list of bytes is written. -/
theorem Memory.read_writeList (m : Memory) (a b : Nat) (bs : List Byte) :
    Memory.read (Memory.writeList m a bs) b =
      if a ≤ b ∧ b < a + bs.length then bs.getD (b - a) Memory.unlisted else Memory.read m b := by
  induction bs generalizing m a with
  | nil =>
    have : ¬ (a ≤ b ∧ b < a + ([] : List Byte).length) := by simp
    rw [if_neg this]
    rfl
  | cons c rest ih =>
    simp only [Memory.writeList, ih, Memory.read_write, List.length_cons]
    by_cases h1 : b = a
    · subst h1
      simp
    · by_cases h2 : a + 1 ≤ b ∧ b < a + 1 + rest.length
      · rw [if_pos h2, if_pos (by omega)]
        obtain ⟨d, rfl⟩ : ∃ d, b = a + 1 + d := ⟨b - (a + 1), by omega⟩
        have e1 : a + 1 + d - (a + 1) = d := by omega
        have e2 : a + 1 + d - a = d + 1 := by omega
        rw [e1, e2, List.getD_cons_succ]
      · rw [if_neg h2, if_neg h1, if_neg (by omega)]

@[simp] theorem Memory.readList_length (m : Memory) (a n : Nat) : (Memory.readList m a n).length = n := by
  induction n generalizing a with
  | zero => rfl
  | succ n ih => simp [Memory.readList, ih]

end Sys2Proof.Machine
end

