-- ==== Sys2Proof/Laws/State.lean ====
section
/-! SUPPORT. One lemma per field and update of the state, each true by unfolding, so that no proof unfolds a record
update. -/

namespace Sys2Proof.Machine

@[simp] theorem State.mapRegs_regs (f : Regs → Regs) (s : State) : (s.mapRegs f).regs = f s.regs := rfl
@[simp] theorem State.mapRegs_cpuState (f : Regs → Regs) (s : State) : (s.mapRegs f).cpuState = s.cpuState := rfl
@[simp] theorem State.mapRegs_lines (f : Regs → Regs) (s : State) : (s.mapRegs f).lines = s.lines := rfl
@[simp] theorem State.mapRegs_lastPc (f : Regs → Regs) (s : State) : (s.mapRegs f).lastPc = s.lastPc := rfl
@[simp] theorem State.mapRegs_lastOpcodeBytes (f : Regs → Regs) (s : State) : (s.mapRegs f).lastOpcodeBytes = s.lastOpcodeBytes := rfl
@[simp] theorem State.mapRegs_mem (f : Regs → Regs) (s : State) : (s.mapRegs f).mem = s.mem := rfl
@[simp] theorem State.mapRegs_tags (f : Regs → Regs) (s : State) : (s.mapRegs f).tags = s.tags := rfl
@[simp] theorem State.mapRegs_dev (f : Regs → Regs) (s : State) : (s.mapRegs f).dev = s.dev := rfl
@[simp] theorem State.mapRegs_exe (f : Regs → Regs) (s : State) : (s.mapRegs f).exe = s.exe := rfl
@[simp] theorem State.mapRegs_host (f : Regs → Regs) (s : State) : (s.mapRegs f).host = s.host := rfl

@[simp] theorem State.setCC_regs (cc : CC) (s : State) : (s.setCC cc).regs = { s.regs with cc := cc } := rfl
@[simp] theorem State.setCC_cpuState (cc : CC) (s : State) : (s.setCC cc).cpuState = s.cpuState := rfl
@[simp] theorem State.setCC_lines (cc : CC) (s : State) : (s.setCC cc).lines = s.lines := rfl
@[simp] theorem State.setCC_lastPc (cc : CC) (s : State) : (s.setCC cc).lastPc = s.lastPc := rfl
@[simp] theorem State.setCC_lastOpcodeBytes (cc : CC) (s : State) : (s.setCC cc).lastOpcodeBytes = s.lastOpcodeBytes := rfl
@[simp] theorem State.setCC_mem (cc : CC) (s : State) : (s.setCC cc).mem = s.mem := rfl
@[simp] theorem State.setCC_tags (cc : CC) (s : State) : (s.setCC cc).tags = s.tags := rfl
@[simp] theorem State.setCC_dev (cc : CC) (s : State) : (s.setCC cc).dev = s.dev := rfl
@[simp] theorem State.setCC_exe (cc : CC) (s : State) : (s.setCC cc).exe = s.exe := rfl
@[simp] theorem State.setCC_host (cc : CC) (s : State) : (s.setCC cc).host = s.host := rfl

@[simp] theorem State.setPC_regs (pc : Word) (s : State) : (s.setPC pc).regs = { s.regs with pc := pc } := rfl
@[simp] theorem State.setPC_cpuState (pc : Word) (s : State) : (s.setPC pc).cpuState = s.cpuState := rfl
@[simp] theorem State.setPC_lines (pc : Word) (s : State) : (s.setPC pc).lines = s.lines := rfl
@[simp] theorem State.setPC_lastPc (pc : Word) (s : State) : (s.setPC pc).lastPc = s.lastPc := rfl
@[simp] theorem State.setPC_lastOpcodeBytes (pc : Word) (s : State) : (s.setPC pc).lastOpcodeBytes = s.lastOpcodeBytes := rfl
@[simp] theorem State.setPC_mem (pc : Word) (s : State) : (s.setPC pc).mem = s.mem := rfl
@[simp] theorem State.setPC_tags (pc : Word) (s : State) : (s.setPC pc).tags = s.tags := rfl
@[simp] theorem State.setPC_dev (pc : Word) (s : State) : (s.setPC pc).dev = s.dev := rfl
@[simp] theorem State.setPC_exe (pc : Word) (s : State) : (s.setPC pc).exe = s.exe := rfl
@[simp] theorem State.setPC_host (pc : Word) (s : State) : (s.setPC pc).host = s.host := rfl

@[simp] theorem State.setE_regs (e : Bool) (s : State) : (s.setE e).regs = { s.regs with cc := { s.regs.cc with e := e } } := rfl
@[simp] theorem State.setE_cpuState (e : Bool) (s : State) : (s.setE e).cpuState = s.cpuState := rfl
@[simp] theorem State.setE_lines (e : Bool) (s : State) : (s.setE e).lines = s.lines := rfl
@[simp] theorem State.setE_lastPc (e : Bool) (s : State) : (s.setE e).lastPc = s.lastPc := rfl
@[simp] theorem State.setE_lastOpcodeBytes (e : Bool) (s : State) : (s.setE e).lastOpcodeBytes = s.lastOpcodeBytes := rfl
@[simp] theorem State.setE_mem (e : Bool) (s : State) : (s.setE e).mem = s.mem := rfl
@[simp] theorem State.setE_tags (e : Bool) (s : State) : (s.setE e).tags = s.tags := rfl
@[simp] theorem State.setE_dev (e : Bool) (s : State) : (s.setE e).dev = s.dev := rfl
@[simp] theorem State.setE_exe (e : Bool) (s : State) : (s.setE e).exe = s.exe := rfl
@[simp] theorem State.setE_host (e : Bool) (s : State) : (s.setE e).host = s.host := rfl

@[simp] theorem State.armNmi_regs (s : State) : (s.armNmi).regs = s.regs := rfl
@[simp] theorem State.armNmi_cpuState (s : State) : (s.armNmi).cpuState = s.cpuState := rfl
@[simp] theorem State.armNmi_lines (s : State) : (s.armNmi).lines = { s.lines with nmiArmed := true } := rfl
@[simp] theorem State.armNmi_lastPc (s : State) : (s.armNmi).lastPc = s.lastPc := rfl
@[simp] theorem State.armNmi_lastOpcodeBytes (s : State) : (s.armNmi).lastOpcodeBytes = s.lastOpcodeBytes := rfl
@[simp] theorem State.armNmi_mem (s : State) : (s.armNmi).mem = s.mem := rfl
@[simp] theorem State.armNmi_tags (s : State) : (s.armNmi).tags = s.tags := rfl
@[simp] theorem State.armNmi_dev (s : State) : (s.armNmi).dev = s.dev := rfl
@[simp] theorem State.armNmi_exe (s : State) : (s.armNmi).exe = s.exe := rfl
@[simp] theorem State.armNmi_host (s : State) : (s.armNmi).host = s.host := rfl

@[simp] theorem State.poke_regs (a : Word) (v : Byte) (s : State) : (s.poke a v).regs = s.regs := rfl
@[simp] theorem State.poke_cpuState (a : Word) (v : Byte) (s : State) : (s.poke a v).cpuState = s.cpuState := rfl
@[simp] theorem State.poke_lines (a : Word) (v : Byte) (s : State) : (s.poke a v).lines = s.lines := rfl
@[simp] theorem State.poke_lastPc (a : Word) (v : Byte) (s : State) : (s.poke a v).lastPc = s.lastPc := rfl
@[simp] theorem State.poke_lastOpcodeBytes (a : Word) (v : Byte) (s : State) : (s.poke a v).lastOpcodeBytes = s.lastOpcodeBytes := rfl
@[simp] theorem State.poke_mem (a : Word) (v : Byte) (s : State) : (s.poke a v).mem = Memory.write s.mem a.toNat v := rfl
@[simp] theorem State.poke_tags (a : Word) (v : Byte) (s : State) : (s.poke a v).tags = s.tags := rfl
@[simp] theorem State.poke_dev (a : Word) (v : Byte) (s : State) : (s.poke a v).dev = s.dev := rfl
@[simp] theorem State.poke_exe (a : Word) (v : Byte) (s : State) : (s.poke a v).exe = s.exe := rfl
@[simp] theorem State.poke_host (a : Word) (v : Byte) (s : State) : (s.poke a v).host = s.host := rfl

@[simp] theorem State.call_regs (c : HostCall) (s : State) : (s.call c).regs = s.regs := rfl
@[simp] theorem State.call_cpuState (c : HostCall) (s : State) : (s.call c).cpuState = s.cpuState := rfl
@[simp] theorem State.call_lines (c : HostCall) (s : State) : (s.call c).lines = s.lines := rfl
@[simp] theorem State.call_lastPc (c : HostCall) (s : State) : (s.call c).lastPc = s.lastPc := rfl
@[simp] theorem State.call_lastOpcodeBytes (c : HostCall) (s : State) : (s.call c).lastOpcodeBytes = s.lastOpcodeBytes := rfl
@[simp] theorem State.call_mem (c : HostCall) (s : State) : (s.call c).mem = s.mem := rfl
@[simp] theorem State.call_tags (c : HostCall) (s : State) : (s.call c).tags = s.tags := rfl
@[simp] theorem State.call_dev (c : HostCall) (s : State) : (s.call c).dev = s.dev := rfl
@[simp] theorem State.call_exe (c : HostCall) (s : State) : (s.call c).exe = s.exe := rfl
@[simp] theorem State.call_host (c : HostCall) (s : State) : (s.call c).host = { s.host with calls := c :: s.host.calls } := rfl

@[simp] theorem State.requestNmi_regs (s : State) : (s.requestNmi).regs = s.regs := rfl
@[simp] theorem State.requestNmi_cpuState (s : State) : (s.requestNmi).cpuState = s.cpuState := rfl
@[simp] theorem State.requestNmi_lines (s : State) : (s.requestNmi).lines = { s.lines with nmiReq := true } := rfl
@[simp] theorem State.requestNmi_lastPc (s : State) : (s.requestNmi).lastPc = s.lastPc := rfl
@[simp] theorem State.requestNmi_lastOpcodeBytes (s : State) : (s.requestNmi).lastOpcodeBytes = s.lastOpcodeBytes := rfl
@[simp] theorem State.requestNmi_mem (s : State) : (s.requestNmi).mem = s.mem := rfl
@[simp] theorem State.requestNmi_tags (s : State) : (s.requestNmi).tags = s.tags := rfl
@[simp] theorem State.requestNmi_dev (s : State) : (s.requestNmi).dev = s.dev := rfl
@[simp] theorem State.requestNmi_exe (s : State) : (s.requestNmi).exe = s.exe := rfl
@[simp] theorem State.requestNmi_host (s : State) : (s.requestNmi).host = s.host := rfl

@[simp] theorem State.requestFirq_regs (s : State) : (s.requestFirq).regs = s.regs := rfl
@[simp] theorem State.requestFirq_cpuState (s : State) : (s.requestFirq).cpuState = s.cpuState := rfl
@[simp] theorem State.requestFirq_lines (s : State) : (s.requestFirq).lines = { s.lines with firqReq := true } := rfl
@[simp] theorem State.requestFirq_lastPc (s : State) : (s.requestFirq).lastPc = s.lastPc := rfl
@[simp] theorem State.requestFirq_lastOpcodeBytes (s : State) : (s.requestFirq).lastOpcodeBytes = s.lastOpcodeBytes := rfl
@[simp] theorem State.requestFirq_mem (s : State) : (s.requestFirq).mem = s.mem := rfl
@[simp] theorem State.requestFirq_tags (s : State) : (s.requestFirq).tags = s.tags := rfl
@[simp] theorem State.requestFirq_dev (s : State) : (s.requestFirq).dev = s.dev := rfl
@[simp] theorem State.requestFirq_exe (s : State) : (s.requestFirq).exe = s.exe := rfl
@[simp] theorem State.requestFirq_host (s : State) : (s.requestFirq).host = s.host := rfl

@[simp] theorem State.requestIrq_regs (s : State) : (s.requestIrq).regs = s.regs := rfl
@[simp] theorem State.requestIrq_cpuState (s : State) : (s.requestIrq).cpuState = s.cpuState := rfl
@[simp] theorem State.requestIrq_lines (s : State) : (s.requestIrq).lines = { s.lines with irqReq := true } := rfl
@[simp] theorem State.requestIrq_lastPc (s : State) : (s.requestIrq).lastPc = s.lastPc := rfl
@[simp] theorem State.requestIrq_lastOpcodeBytes (s : State) : (s.requestIrq).lastOpcodeBytes = s.lastOpcodeBytes := rfl
@[simp] theorem State.requestIrq_mem (s : State) : (s.requestIrq).mem = s.mem := rfl
@[simp] theorem State.requestIrq_tags (s : State) : (s.requestIrq).tags = s.tags := rfl
@[simp] theorem State.requestIrq_dev (s : State) : (s.requestIrq).dev = s.dev := rfl
@[simp] theorem State.requestIrq_exe (s : State) : (s.requestIrq).exe = s.exe := rfl
@[simp] theorem State.requestIrq_host (s : State) : (s.requestIrq).host = s.host := rfl

@[simp] theorem State.mapDev_regs (f : Devices → Devices) (s : State) : (s.mapDev f).regs = s.regs := rfl
@[simp] theorem State.mapDev_cpuState (f : Devices → Devices) (s : State) : (s.mapDev f).cpuState = s.cpuState := rfl
@[simp] theorem State.mapDev_lines (f : Devices → Devices) (s : State) : (s.mapDev f).lines = s.lines := rfl
@[simp] theorem State.mapDev_lastPc (f : Devices → Devices) (s : State) : (s.mapDev f).lastPc = s.lastPc := rfl
@[simp] theorem State.mapDev_lastOpcodeBytes (f : Devices → Devices) (s : State) : (s.mapDev f).lastOpcodeBytes = s.lastOpcodeBytes := rfl
@[simp] theorem State.mapDev_mem (f : Devices → Devices) (s : State) : (s.mapDev f).mem = s.mem := rfl
@[simp] theorem State.mapDev_tags (f : Devices → Devices) (s : State) : (s.mapDev f).tags = s.tags := rfl
@[simp] theorem State.mapDev_dev (f : Devices → Devices) (s : State) : (s.mapDev f).dev = f s.dev := rfl
@[simp] theorem State.mapDev_exe (f : Devices → Devices) (s : State) : (s.mapDev f).exe = s.exe := rfl
@[simp] theorem State.mapDev_host (f : Devices → Devices) (s : State) : (s.mapDev f).host = s.host := rfl

@[simp] theorem State.mapDisk_regs (f : Disk → Disk) (s : State) : (s.mapDisk f).regs = s.regs := rfl
@[simp] theorem State.mapDisk_cpuState (f : Disk → Disk) (s : State) : (s.mapDisk f).cpuState = s.cpuState := rfl
@[simp] theorem State.mapDisk_lines (f : Disk → Disk) (s : State) : (s.mapDisk f).lines = s.lines := rfl
@[simp] theorem State.mapDisk_lastPc (f : Disk → Disk) (s : State) : (s.mapDisk f).lastPc = s.lastPc := rfl
@[simp] theorem State.mapDisk_lastOpcodeBytes (f : Disk → Disk) (s : State) : (s.mapDisk f).lastOpcodeBytes = s.lastOpcodeBytes := rfl
@[simp] theorem State.mapDisk_mem (f : Disk → Disk) (s : State) : (s.mapDisk f).mem = s.mem := rfl
@[simp] theorem State.mapDisk_tags (f : Disk → Disk) (s : State) : (s.mapDisk f).tags = s.tags := rfl
@[simp] theorem State.mapDisk_dev (f : Disk → Disk) (s : State) : (s.mapDisk f).dev = { s.dev with disk := f s.dev.disk } := rfl
@[simp] theorem State.mapDisk_exe (f : Disk → Disk) (s : State) : (s.mapDisk f).exe = s.exe := rfl
@[simp] theorem State.mapDisk_host (f : Disk → Disk) (s : State) : (s.mapDisk f).host = s.host := rfl

@[simp] theorem State.mapImage_regs (f : Memory → Memory) (s : State) : (s.mapImage f).regs = s.regs := rfl
@[simp] theorem State.mapImage_cpuState (f : Memory → Memory) (s : State) : (s.mapImage f).cpuState = s.cpuState := rfl
@[simp] theorem State.mapImage_lines (f : Memory → Memory) (s : State) : (s.mapImage f).lines = s.lines := rfl
@[simp] theorem State.mapImage_lastPc (f : Memory → Memory) (s : State) : (s.mapImage f).lastPc = s.lastPc := rfl
@[simp] theorem State.mapImage_lastOpcodeBytes (f : Memory → Memory) (s : State) : (s.mapImage f).lastOpcodeBytes = s.lastOpcodeBytes := rfl
@[simp] theorem State.mapImage_mem (f : Memory → Memory) (s : State) : (s.mapImage f).mem = s.mem := rfl
@[simp] theorem State.mapImage_tags (f : Memory → Memory) (s : State) : (s.mapImage f).tags = s.tags := rfl
@[simp] theorem State.mapImage_dev (f : Memory → Memory) (s : State) : (s.mapImage f).dev = { s.dev with image := { s.dev.image with bytes := f s.dev.image.bytes } } := rfl
@[simp] theorem State.mapImage_exe (f : Memory → Memory) (s : State) : (s.mapImage f).exe = s.exe := rfl
@[simp] theorem State.mapImage_host (f : Memory → Memory) (s : State) : (s.mapImage f).host = s.host := rfl

@[simp] theorem State.mapExe_regs (f : Executive → Executive) (s : State) : (s.mapExe f).regs = s.regs := rfl
@[simp] theorem State.mapExe_cpuState (f : Executive → Executive) (s : State) : (s.mapExe f).cpuState = s.cpuState := rfl
@[simp] theorem State.mapExe_lines (f : Executive → Executive) (s : State) : (s.mapExe f).lines = s.lines := rfl
@[simp] theorem State.mapExe_lastPc (f : Executive → Executive) (s : State) : (s.mapExe f).lastPc = s.lastPc := rfl
@[simp] theorem State.mapExe_lastOpcodeBytes (f : Executive → Executive) (s : State) : (s.mapExe f).lastOpcodeBytes = s.lastOpcodeBytes := rfl
@[simp] theorem State.mapExe_mem (f : Executive → Executive) (s : State) : (s.mapExe f).mem = s.mem := rfl
@[simp] theorem State.mapExe_tags (f : Executive → Executive) (s : State) : (s.mapExe f).tags = s.tags := rfl
@[simp] theorem State.mapExe_dev (f : Executive → Executive) (s : State) : (s.mapExe f).dev = s.dev := rfl
@[simp] theorem State.mapExe_exe (f : Executive → Executive) (s : State) : (s.mapExe f).exe = f s.exe := rfl
@[simp] theorem State.mapExe_host (f : Executive → Executive) (s : State) : (s.mapExe f).host = s.host := rfl

@[simp] theorem State.setFrame_regs (f : Frame) (s : State) : (s.setFrame f).regs = s.regs := rfl
@[simp] theorem State.setFrame_cpuState (f : Frame) (s : State) : (s.setFrame f).cpuState = s.cpuState := rfl
@[simp] theorem State.setFrame_lines (f : Frame) (s : State) : (s.setFrame f).lines = s.lines := rfl
@[simp] theorem State.setFrame_lastPc (f : Frame) (s : State) : (s.setFrame f).lastPc = s.lastPc := rfl
@[simp] theorem State.setFrame_lastOpcodeBytes (f : Frame) (s : State) : (s.setFrame f).lastOpcodeBytes = s.lastOpcodeBytes := rfl
@[simp] theorem State.setFrame_mem (f : Frame) (s : State) : (s.setFrame f).mem = s.mem := rfl
@[simp] theorem State.setFrame_tags (f : Frame) (s : State) : (s.setFrame f).tags = s.tags := rfl
@[simp] theorem State.setFrame_dev (f : Frame) (s : State) : (s.setFrame f).dev = { s.dev with frame := f } := rfl
@[simp] theorem State.setFrame_exe (f : Frame) (s : State) : (s.setFrame f).exe = s.exe := rfl
@[simp] theorem State.setFrame_host (f : Frame) (s : State) : (s.setFrame f).host = s.host := rfl

@[simp] theorem State.recordBytes_regs (bs : List Byte) (s : State) : (s.recordBytes bs).regs = s.regs := rfl
@[simp] theorem State.recordBytes_cpuState (bs : List Byte) (s : State) : (s.recordBytes bs).cpuState = s.cpuState := rfl
@[simp] theorem State.recordBytes_lines (bs : List Byte) (s : State) : (s.recordBytes bs).lines = s.lines := rfl
@[simp] theorem State.recordBytes_lastPc (bs : List Byte) (s : State) : (s.recordBytes bs).lastPc = s.lastPc := rfl
@[simp] theorem State.recordBytes_lastOpcodeBytes (bs : List Byte) (s : State) : (s.recordBytes bs).lastOpcodeBytes = bs := rfl
@[simp] theorem State.recordBytes_mem (bs : List Byte) (s : State) : (s.recordBytes bs).mem = s.mem := rfl
@[simp] theorem State.recordBytes_tags (bs : List Byte) (s : State) : (s.recordBytes bs).tags = s.tags := rfl
@[simp] theorem State.recordBytes_dev (bs : List Byte) (s : State) : (s.recordBytes bs).dev = s.dev := rfl
@[simp] theorem State.recordBytes_exe (bs : List Byte) (s : State) : (s.recordBytes bs).exe = s.exe := rfl
@[simp] theorem State.recordBytes_host (bs : List Byte) (s : State) : (s.recordBytes bs).host = s.host := rfl

@[simp] theorem State.acknowledge_regs (e : Event) (s : State) : (s.acknowledge e).regs = s.regs := rfl
@[simp] theorem State.acknowledge_cpuState (e : Event) (s : State) : (s.acknowledge e).cpuState = s.cpuState := rfl
@[simp] theorem State.acknowledge_lines (e : Event) (s : State) : (s.acknowledge e).lines = e.clearLatch s.lines := rfl
@[simp] theorem State.acknowledge_lastPc (e : Event) (s : State) : (s.acknowledge e).lastPc = s.lastPc := rfl
@[simp] theorem State.acknowledge_lastOpcodeBytes (e : Event) (s : State) : (s.acknowledge e).lastOpcodeBytes = s.lastOpcodeBytes := rfl
@[simp] theorem State.acknowledge_mem (e : Event) (s : State) : (s.acknowledge e).mem = s.mem := rfl
@[simp] theorem State.acknowledge_tags (e : Event) (s : State) : (s.acknowledge e).tags = s.tags := rfl
@[simp] theorem State.acknowledge_dev (e : Event) (s : State) : (s.acknowledge e).dev = s.dev := rfl
@[simp] theorem State.acknowledge_exe (e : Event) (s : State) : (s.acknowledge e).exe = s.exe := rfl
@[simp] theorem State.acknowledge_host (e : Event) (s : State) : (s.acknowledge e).host = s.host := rfl

@[simp] theorem State.raiseIllegal_regs (s : State) : (s.raiseIllegal).regs = { s.regs with pc := s.lastPc } := rfl
@[simp] theorem State.raiseIllegal_cpuState (s : State) : (s.raiseIllegal).cpuState = .exception := rfl
@[simp] theorem State.raiseIllegal_lines (s : State) : (s.raiseIllegal).lines = s.lines := rfl
@[simp] theorem State.raiseIllegal_lastPc (s : State) : (s.raiseIllegal).lastPc = s.lastPc := rfl
@[simp] theorem State.raiseIllegal_lastOpcodeBytes (s : State) : (s.raiseIllegal).lastOpcodeBytes = s.lastOpcodeBytes := rfl
@[simp] theorem State.raiseIllegal_mem (s : State) : (s.raiseIllegal).mem = s.mem := rfl
@[simp] theorem State.raiseIllegal_tags (s : State) : (s.raiseIllegal).tags = s.tags := rfl
@[simp] theorem State.raiseIllegal_dev (s : State) : (s.raiseIllegal).dev = s.dev := rfl
@[simp] theorem State.raiseIllegal_exe (s : State) : (s.raiseIllegal).exe = s.exe := rfl
@[simp] theorem State.raiseIllegal_host (s : State) : (s.raiseIllegal).host = s.host := rfl

@[simp] theorem State.draw_number (s : State) : s.draw.1 = s.host.draws := rfl
@[simp] theorem State.draw_regs (s : State) : s.draw.2.regs = s.regs := rfl
@[simp] theorem State.draw_cpuState (s : State) : s.draw.2.cpuState = s.cpuState := rfl
@[simp] theorem State.draw_lines (s : State) : s.draw.2.lines = s.lines := rfl
@[simp] theorem State.draw_lastPc (s : State) : s.draw.2.lastPc = s.lastPc := rfl
@[simp] theorem State.draw_lastOpcodeBytes (s : State) : s.draw.2.lastOpcodeBytes = s.lastOpcodeBytes := rfl
@[simp] theorem State.draw_mem (s : State) : s.draw.2.mem = s.mem := rfl
@[simp] theorem State.draw_tags (s : State) : s.draw.2.tags = s.tags := rfl
@[simp] theorem State.draw_dev (s : State) : s.draw.2.dev = s.dev := rfl
@[simp] theorem State.draw_exe (s : State) : s.draw.2.exe = s.exe := rfl
@[simp] theorem State.draw_host (s : State) : s.draw.2.host = { s.host with draws := s.host.draws + 1 } := rfl

@[simp] theorem State.setPia_regs (id : PiaId) (p : Pia) (s : State) : (s.setPia id p).regs = s.regs := by cases id <;> rfl
@[simp] theorem State.setPia_cpuState (id : PiaId) (p : Pia) (s : State) : (s.setPia id p).cpuState = s.cpuState := by cases id <;> rfl
@[simp] theorem State.setPia_lines (id : PiaId) (p : Pia) (s : State) : (s.setPia id p).lines = s.lines := by cases id <;> rfl
@[simp] theorem State.setPia_lastPc (id : PiaId) (p : Pia) (s : State) : (s.setPia id p).lastPc = s.lastPc := by cases id <;> rfl
@[simp] theorem State.setPia_lastOpcodeBytes (id : PiaId) (p : Pia) (s : State) : (s.setPia id p).lastOpcodeBytes = s.lastOpcodeBytes := by cases id <;> rfl
@[simp] theorem State.setPia_mem (id : PiaId) (p : Pia) (s : State) : (s.setPia id p).mem = s.mem := by cases id <;> rfl
@[simp] theorem State.setPia_tags (id : PiaId) (p : Pia) (s : State) : (s.setPia id p).tags = s.tags := by cases id <;> rfl
@[simp] theorem State.setPia_exe (id : PiaId) (p : Pia) (s : State) : (s.setPia id p).exe = s.exe := by cases id <;> rfl
@[simp] theorem State.setPia_host (id : PiaId) (p : Pia) (s : State) : (s.setPia id p).host = s.host := by cases id <;> rfl

@[simp] theorem State.setPia_pia (id : PiaId) (p : Pia) (s : State) : (s.setPia id p).pia id = p := by
  cases id <;> rfl

theorem State.setPia_dev (id : PiaId) (p : Pia) (s : State) :
    (s.setPia id p).dev =
      match id with
      | .pia0 => { s.dev with pia0 := p }
      | .pia1 => { s.dev with pia1 := p } := by
  cases id <;> rfl

@[simp] theorem State.setPC_setPC (a b : Word) (s : State) : (s.setPC a).setPC b = s.setPC b := rfl

@[simp] theorem State.setCC_setCC (a b : CC) (s : State) : (s.setCC a).setCC b = s.setCC b := rfl

end Sys2Proof.Machine
end

