-- ==== Sys2Proof/Laws/Bus.lean ====
section
/-! SUPPORT. What a bus access can do: a read keeps everything but PIA flags, the disk controller and the count of draws; a
write keeps the registers, the tags and every cell but its own. -/

namespace Sys2Proof.Machine

/-! ### Requests of a PIA -/

/-- Clearing flags cannot raise the interrupt output of a side. -/
theorem crIrq_clear (cr : Byte) (h : crIrq (cr &&& 0x3F#8) = true) : crIrq cr = true := by
  have key : ∀ c : Byte, crIrq (c &&& 0x3F#8) = true → crIrq c = true := by decide
  exact key cr h

/-- A side whose flags were cleared drives nothing. -/
theorem crIrq_cleared (cr : Byte) : crIrq (cr &&& 0x3F#8) = false := by
  have key : ∀ c : Byte, crIrq (c &&& 0x3F#8) = false := by decide
  exact key cr

/-- A request that was not raised: an access that leaves the output at 0, or that found it at 1, changes nothing. -/
theorem State.piaNotify_quiet (id : PiaId) (before : Bool) (s : State)
    (h : (s.pia id).irqOut = true → before = true) : s.piaNotify id before false = s := by
  unfold State.piaNotify
  cases hb : before <;> cases ho : (s.pia id).irqOut <;> simp_all

/-- What a notification can do: set the PIA's CPU latch. -/
theorem State.piaNotify_cases (id : PiaId) (before en : Bool) (s : State) :
    s.piaNotify id before en = s ∨ s.piaNotify id before en = s.requestLine id := by
  unfold State.piaNotify
  split
  · exact .inr rfl
  · exact .inl rfl

@[simp] theorem State.requestLine_regs (id : PiaId) (s : State) : (s.requestLine id).regs = s.regs := by
  cases id <;> rfl

@[simp] theorem State.piaNotify_regs (id : PiaId) (before en : Bool) (s : State) :
    (s.piaNotify id before en).regs = s.regs := by
  rcases s.piaNotify_cases id before en with h | h <;> rw [h]
  simp

@[simp] theorem State.requestLine_cpuState (id : PiaId) (s : State) : (s.requestLine id).cpuState = s.cpuState := by
  cases id <;> rfl

@[simp] theorem State.piaNotify_cpuState (id : PiaId) (before en : Bool) (s : State) :
    (s.piaNotify id before en).cpuState = s.cpuState := by
  rcases s.piaNotify_cases id before en with h | h <;> rw [h]
  simp

@[simp] theorem State.requestLine_lastPc (id : PiaId) (s : State) : (s.requestLine id).lastPc = s.lastPc := by
  cases id <;> rfl

@[simp] theorem State.piaNotify_lastPc (id : PiaId) (before en : Bool) (s : State) :
    (s.piaNotify id before en).lastPc = s.lastPc := by
  rcases s.piaNotify_cases id before en with h | h <;> rw [h]
  simp

@[simp] theorem State.requestLine_lastOpcodeBytes (id : PiaId) (s : State) : (s.requestLine id).lastOpcodeBytes = s.lastOpcodeBytes := by
  cases id <;> rfl

@[simp] theorem State.piaNotify_lastOpcodeBytes (id : PiaId) (before en : Bool) (s : State) :
    (s.piaNotify id before en).lastOpcodeBytes = s.lastOpcodeBytes := by
  rcases s.piaNotify_cases id before en with h | h <;> rw [h]
  simp

@[simp] theorem State.requestLine_mem (id : PiaId) (s : State) : (s.requestLine id).mem = s.mem := by
  cases id <;> rfl

@[simp] theorem State.piaNotify_mem (id : PiaId) (before en : Bool) (s : State) :
    (s.piaNotify id before en).mem = s.mem := by
  rcases s.piaNotify_cases id before en with h | h <;> rw [h]
  simp

@[simp] theorem State.requestLine_tags (id : PiaId) (s : State) : (s.requestLine id).tags = s.tags := by
  cases id <;> rfl

@[simp] theorem State.piaNotify_tags (id : PiaId) (before en : Bool) (s : State) :
    (s.piaNotify id before en).tags = s.tags := by
  rcases s.piaNotify_cases id before en with h | h <;> rw [h]
  simp

@[simp] theorem State.requestLine_dev (id : PiaId) (s : State) : (s.requestLine id).dev = s.dev := by
  cases id <;> rfl

@[simp] theorem State.piaNotify_dev (id : PiaId) (before en : Bool) (s : State) :
    (s.piaNotify id before en).dev = s.dev := by
  rcases s.piaNotify_cases id before en with h | h <;> rw [h]
  simp

@[simp] theorem State.requestLine_exe (id : PiaId) (s : State) : (s.requestLine id).exe = s.exe := by
  cases id <;> rfl

@[simp] theorem State.piaNotify_exe (id : PiaId) (before en : Bool) (s : State) :
    (s.piaNotify id before en).exe = s.exe := by
  rcases s.piaNotify_cases id before en with h | h <;> rw [h]
  simp

@[simp] theorem State.requestLine_host (id : PiaId) (s : State) : (s.requestLine id).host = s.host := by
  cases id <;> rfl

@[simp] theorem State.piaNotify_host (id : PiaId) (before en : Bool) (s : State) :
    (s.piaNotify id before en).host = s.host := by
  rcases s.piaNotify_cases id before en with h | h <;> rw [h]
  simp

/-- A notification never arms NMI, never requests one, and clears no latch. -/
theorem State.piaNotify_nmi (id : PiaId) (before en : Bool) (s : State) :
    (s.piaNotify id before en).lines.nmiArmed = s.lines.nmiArmed ∧
      (s.piaNotify id before en).lines.nmiReq = s.lines.nmiReq := by
  rcases s.piaNotify_cases id before en with h | h <;> rw [h]
  · exact ⟨rfl, rfl⟩
  · cases id <;> exact ⟨rfl, rfl⟩

/-! ### Reads -/

@[simp] theorem State.pinsA_regs (id : PiaId) (s : State) : (s.pinsA id).2.regs = s.regs := by
  cases id <;> rfl

@[simp] theorem State.pinsB_regs (s : State) : s.pinsB.2.regs = s.regs := rfl

@[simp] theorem State.pinsA_cpuState (id : PiaId) (s : State) : (s.pinsA id).2.cpuState = s.cpuState := by
  cases id <;> rfl

@[simp] theorem State.pinsB_cpuState (s : State) : s.pinsB.2.cpuState = s.cpuState := rfl

@[simp] theorem State.pinsA_lines (id : PiaId) (s : State) : (s.pinsA id).2.lines = s.lines := by
  cases id <;> rfl

@[simp] theorem State.pinsB_lines (s : State) : s.pinsB.2.lines = s.lines := rfl

@[simp] theorem State.pinsA_lastPc (id : PiaId) (s : State) : (s.pinsA id).2.lastPc = s.lastPc := by
  cases id <;> rfl

@[simp] theorem State.pinsB_lastPc (s : State) : s.pinsB.2.lastPc = s.lastPc := rfl

@[simp] theorem State.pinsA_lastOpcodeBytes (id : PiaId) (s : State) : (s.pinsA id).2.lastOpcodeBytes = s.lastOpcodeBytes := by
  cases id <;> rfl

@[simp] theorem State.pinsB_lastOpcodeBytes (s : State) : s.pinsB.2.lastOpcodeBytes = s.lastOpcodeBytes := rfl

@[simp] theorem State.pinsA_mem (id : PiaId) (s : State) : (s.pinsA id).2.mem = s.mem := by
  cases id <;> rfl

@[simp] theorem State.pinsB_mem (s : State) : s.pinsB.2.mem = s.mem := rfl

@[simp] theorem State.pinsA_tags (id : PiaId) (s : State) : (s.pinsA id).2.tags = s.tags := by
  cases id <;> rfl

@[simp] theorem State.pinsB_tags (s : State) : s.pinsB.2.tags = s.tags := rfl

@[simp] theorem State.pinsA_exe (id : PiaId) (s : State) : (s.pinsA id).2.exe = s.exe := by
  cases id <;> rfl

@[simp] theorem State.pinsB_exe (s : State) : s.pinsB.2.exe = s.exe := rfl

@[simp] theorem State.pinsA_dev (id : PiaId) (s : State) : (s.pinsA id).2.dev = s.dev := by
  cases id <;> rfl

@[simp] theorem State.pinsB_dev (s : State) : s.pinsB.2.dev = s.dev := rfl

/-- A read of a PIA, register by register: a data read clears the port's flags and takes one draw, every other read
changes nothing. No read of a PIA sets a latch. -/
theorem State.readPia_state (id : PiaId) (off : BitVec 2) (s : State) :
    (s.readPia id off).2 = s ∨
      (s.readPia id off).2 = (s.pinsA id).2.setPia id { s.pia id with cra := (s.pia id).cra &&& 0x3F#8 } ∨
      (s.readPia id off).2 = s.pinsB.2.setPia id { s.pia id with crb := (s.pia id).crb &&& 0x3F#8 } := by
  have hA : ∀ p : Pia, ({ p with cra := p.cra &&& 0x3F#8 } : Pia).irqOut = true → p.irqOut = true := by
    intro p h
    simp only [Pia.irqOut, crIrq_cleared, Bool.false_or] at h
    simp [Pia.irqOut, h]
  have hB : ∀ p : Pia, ({ p with crb := p.crb &&& 0x3F#8 } : Pia).irqOut = true → p.irqOut = true := by
    intro p h
    simp only [Pia.irqOut, crIrq_cleared, Bool.or_false] at h
    simp [Pia.irqOut, h]
  unfold State.readPia
  dsimp only
  split
  · split
    · right; left
      refine State.piaNotify_quiet id _ _ ?_
      rw [State.setPia_pia]
      exact hA _
    · exact .inl rfl
  · exact .inl rfl
  · split
    · right; right
      refine State.piaNotify_quiet id _ _ ?_
      rw [State.setPia_pia]
      exact hB _
    · exact .inl rfl
  · exact .inl rfl

/-- A read of the disk window, register by register: only a DATA read changes anything, and that only the
controller. -/
theorem State.readDisk_state (off : Nat) (s : State) : ∃ d : Disk, (s.readDisk off).2 = s.mapDisk fun _ => d := by
  unfold State.readDisk State.diskReadData
  dsimp only
  split
  · exact ⟨s.dev.disk, rfl⟩
  · exact ⟨s.dev.disk, rfl⟩
  · exact ⟨s.dev.disk, rfl⟩
  · split
    · exact ⟨_, rfl⟩
    · exact ⟨s.dev.disk, rfl⟩
  · exact ⟨s.dev.disk, rfl⟩

/-- What one bus read can do to the state: nothing, clear the flags of a PIA port, change the disk controller, or take a
draw. -/
theorem State.readByte_state (a : Word) (s : State) :
    (s.readByte a).2 = s ∨ (∃ id off, (s.readByte a).2 = (s.readPia id off).2) ∨
      (∃ d, (s.readByte a).2 = s.mapDisk fun _ => d) ∨ (s.readByte a).2 = s.draw.2 := by
  unfold State.readByte
  split
  · exact .inl rfl
  · exact .inl rfl
  · exact .inl rfl
  · exact .inl rfl
  · exact .inr (.inl ⟨_, _, rfl⟩)
  · exact .inr (.inl ⟨_, _, rfl⟩)
  · exact .inr (.inr (.inl (State.readDisk_state _ _)))
  · exact .inr (.inr (.inr rfl))

@[simp] theorem State.readPia_regs (id : PiaId) (off : BitVec 2) (s : State) : (s.readPia id off).2.regs = s.regs := by
  rcases s.readPia_state id off with h | h | h <;> rw [h] <;> simp

@[simp] theorem State.readByte_regs (a : Word) (s : State) : (s.readByte a).2.regs = s.regs := by
  rcases s.readByte_state a with h | ⟨_, _, h⟩ | ⟨_, h⟩ | h <;> rw [h] <;> simp

@[simp] theorem State.readWord_regs (a : Word) (s : State) : (s.readWord a).2.regs = s.regs := by
  simp [State.readWord]

@[simp] theorem State.readPia_cpuState (id : PiaId) (off : BitVec 2) (s : State) : (s.readPia id off).2.cpuState = s.cpuState := by
  rcases s.readPia_state id off with h | h | h <;> rw [h] <;> simp

@[simp] theorem State.readByte_cpuState (a : Word) (s : State) : (s.readByte a).2.cpuState = s.cpuState := by
  rcases s.readByte_state a with h | ⟨_, _, h⟩ | ⟨_, h⟩ | h <;> rw [h] <;> simp

@[simp] theorem State.readWord_cpuState (a : Word) (s : State) : (s.readWord a).2.cpuState = s.cpuState := by
  simp [State.readWord]

@[simp] theorem State.readPia_lines (id : PiaId) (off : BitVec 2) (s : State) : (s.readPia id off).2.lines = s.lines := by
  rcases s.readPia_state id off with h | h | h <;> rw [h] <;> simp

@[simp] theorem State.readByte_lines (a : Word) (s : State) : (s.readByte a).2.lines = s.lines := by
  rcases s.readByte_state a with h | ⟨_, _, h⟩ | ⟨_, h⟩ | h <;> rw [h] <;> simp

@[simp] theorem State.readWord_lines (a : Word) (s : State) : (s.readWord a).2.lines = s.lines := by
  simp [State.readWord]

@[simp] theorem State.readPia_lastPc (id : PiaId) (off : BitVec 2) (s : State) : (s.readPia id off).2.lastPc = s.lastPc := by
  rcases s.readPia_state id off with h | h | h <;> rw [h] <;> simp

@[simp] theorem State.readByte_lastPc (a : Word) (s : State) : (s.readByte a).2.lastPc = s.lastPc := by
  rcases s.readByte_state a with h | ⟨_, _, h⟩ | ⟨_, h⟩ | h <;> rw [h] <;> simp

@[simp] theorem State.readWord_lastPc (a : Word) (s : State) : (s.readWord a).2.lastPc = s.lastPc := by
  simp [State.readWord]

@[simp] theorem State.readPia_lastOpcodeBytes (id : PiaId) (off : BitVec 2) (s : State) : (s.readPia id off).2.lastOpcodeBytes = s.lastOpcodeBytes := by
  rcases s.readPia_state id off with h | h | h <;> rw [h] <;> simp

@[simp] theorem State.readByte_lastOpcodeBytes (a : Word) (s : State) : (s.readByte a).2.lastOpcodeBytes = s.lastOpcodeBytes := by
  rcases s.readByte_state a with h | ⟨_, _, h⟩ | ⟨_, h⟩ | h <;> rw [h] <;> simp

@[simp] theorem State.readWord_lastOpcodeBytes (a : Word) (s : State) : (s.readWord a).2.lastOpcodeBytes = s.lastOpcodeBytes := by
  simp [State.readWord]

@[simp] theorem State.readPia_mem (id : PiaId) (off : BitVec 2) (s : State) : (s.readPia id off).2.mem = s.mem := by
  rcases s.readPia_state id off with h | h | h <;> rw [h] <;> simp

@[simp] theorem State.readByte_mem (a : Word) (s : State) : (s.readByte a).2.mem = s.mem := by
  rcases s.readByte_state a with h | ⟨_, _, h⟩ | ⟨_, h⟩ | h <;> rw [h] <;> simp

@[simp] theorem State.readWord_mem (a : Word) (s : State) : (s.readWord a).2.mem = s.mem := by
  simp [State.readWord]

@[simp] theorem State.readPia_tags (id : PiaId) (off : BitVec 2) (s : State) : (s.readPia id off).2.tags = s.tags := by
  rcases s.readPia_state id off with h | h | h <;> rw [h] <;> simp

@[simp] theorem State.readByte_tags (a : Word) (s : State) : (s.readByte a).2.tags = s.tags := by
  rcases s.readByte_state a with h | ⟨_, _, h⟩ | ⟨_, h⟩ | h <;> rw [h] <;> simp

@[simp] theorem State.readWord_tags (a : Word) (s : State) : (s.readWord a).2.tags = s.tags := by
  simp [State.readWord]

@[simp] theorem State.readPia_exe (id : PiaId) (off : BitVec 2) (s : State) : (s.readPia id off).2.exe = s.exe := by
  rcases s.readPia_state id off with h | h | h <;> rw [h] <;> simp

@[simp] theorem State.readByte_exe (a : Word) (s : State) : (s.readByte a).2.exe = s.exe := by
  rcases s.readByte_state a with h | ⟨_, _, h⟩ | ⟨_, h⟩ | h <;> rw [h] <;> simp

@[simp] theorem State.readWord_exe (a : Word) (s : State) : (s.readWord a).2.exe = s.exe := by
  simp [State.readWord]

/-- A read of a Ram or Rom cell: its byte, and nothing changes. -/
theorem State.readByte_plain {a : Word} {s : State} (h : s.tagOf a = .ram ∨ s.tagOf a = .rom) :
    s.readByte a = (s.peek a, s) := by
  unfold State.readByte
  rcases h with h | h <;> rw [h]

/-- A 16-bit read of two Ram or Rom cells. -/
theorem State.readWord_plain {a : Word} {s : State} (h : s.tagOf a = .ram ∨ s.tagOf a = .rom)
    (h' : s.tagOf (a + 1#16) = .ram ∨ s.tagOf (a + 1#16) = .rom) :
    s.readWord a = (joinBytes (s.peek a) (s.peek (a + 1#16)), s) := by
  simp [State.readWord, State.readByte_plain h, State.readByte_plain h']

/-! ### Writes -/

/-- What one write of a PIA, of the disk window or of the SAM keeps: it reaches the registers of no one and no cell. -/
structure State.Kept (s t : State) : Prop where
  regs : t.regs = s.regs
  cpuState : t.cpuState = s.cpuState
  lastPc : t.lastPc = s.lastPc
  lastOpcodeBytes : t.lastOpcodeBytes = s.lastOpcodeBytes
  tags : t.tags = s.tags
  mem : t.mem = s.mem
  armed : t.lines.nmiArmed = s.lines.nmiArmed
  nmi : t.lines.nmiReq = s.lines.nmiReq
  answers : t.host.answers = s.host.answers
  halted : t.exe.halted = s.exe.halted
  suspended : t.exe.suspended = s.exe.suspended
  resumeState : t.exe.resumeState = s.exe.resumeState
  pressed : t.exe.resetPressedAt = s.exe.resetPressedAt
  fnKey : t.dev.fnKey = s.dev.fnKey

theorem State.Kept.refl (s : State) : s.Kept s := ⟨rfl, rfl, rfl, rfl, rfl, rfl, rfl, rfl, rfl, rfl, rfl, rfl, rfl, rfl⟩

theorem State.Kept.trans {s t u : State} (h : s.Kept t) (k : t.Kept u) : s.Kept u :=
  ⟨k.regs.trans h.regs, k.cpuState.trans h.cpuState, k.lastPc.trans h.lastPc,
    k.lastOpcodeBytes.trans h.lastOpcodeBytes, k.tags.trans h.tags, k.mem.trans h.mem, k.armed.trans h.armed,
    k.nmi.trans h.nmi, k.answers.trans h.answers, k.halted.trans h.halted, k.suspended.trans h.suspended,
    k.resumeState.trans h.resumeState, k.pressed.trans h.pressed, k.fnKey.trans h.fnKey⟩

theorem State.kept_draw (s : State) : s.Kept s.draw.2 := ⟨rfl, rfl, rfl, rfl, rfl, rfl, rfl, rfl, rfl, rfl, rfl, rfl, rfl, rfl⟩

theorem State.kept_call (c : HostCall) (s : State) : s.Kept (s.call c) :=
  ⟨rfl, rfl, rfl, rfl, rfl, rfl, rfl, rfl, rfl, rfl, rfl, rfl, rfl, rfl⟩

theorem State.kept_setPia (id : PiaId) (p : Pia) (s : State) : s.Kept (s.setPia id p) := by
  cases id <;> exact ⟨rfl, rfl, rfl, rfl, rfl, rfl, rfl, rfl, rfl, rfl, rfl, rfl, rfl, rfl⟩

theorem State.kept_mapDisk (f : Disk → Disk) (s : State) : s.Kept (s.mapDisk f) :=
  ⟨rfl, rfl, rfl, rfl, rfl, rfl, rfl, rfl, rfl, rfl, rfl, rfl, rfl, rfl⟩

theorem State.kept_mapImage (f : Memory → Memory) (s : State) : s.Kept (s.mapImage f) :=
  ⟨rfl, rfl, rfl, rfl, rfl, rfl, rfl, rfl, rfl, rfl, rfl, rfl, rfl, rfl⟩

theorem State.kept_piaNotify (id : PiaId) (before en : Bool) (s : State) : s.Kept (s.piaNotify id before en) := by
  rcases s.piaNotify_cases id before en with h | h <;> rw [h]
  · exact .refl s
  · cases id <;> exact ⟨rfl, rfl, rfl, rfl, rfl, rfl, rfl, rfl, rfl, rfl, rfl, rfl, rfl, rfl⟩

theorem State.kept_cx2Level (cr : Byte) (s : State) : s.Kept (s.cx2Level cr).2 := by
  unfold State.cx2Level
  split
  · exact .refl s
  · exact s.kept_draw

theorem State.kept_afterCra (id : PiaId) (s : State) : s.Kept (s.afterCra id) := by
  cases id
  · exact ((s.kept_cx2Level _).trans (State.kept_cx2Level _ _)).trans (State.kept_call _ _)
  · exact (s.kept_cx2Level _).trans (State.kept_call _ _)

theorem State.kept_afterCrb (id : PiaId) (s : State) : s.Kept (s.afterCrb id) := by
  cases id
  · exact ((s.kept_cx2Level _).trans (State.kept_cx2Level _ _)).trans (State.kept_call _ _)
  · exact .refl s

theorem State.kept_afterOra (id : PiaId) (s : State) : s.Kept (s.afterOra id) := by
  cases id
  · exact .refl s
  · exact s.kept_call _

theorem State.kept_afterOrb (id : PiaId) (v : Byte) (s : State) : s.Kept (s.afterOrb id v) := by
  cases id <;> exact ⟨rfl, rfl, rfl, rfl, rfl, rfl, rfl, rfl, rfl, rfl, rfl, rfl, rfl, rfl⟩

theorem State.kept_writePia (id : PiaId) (off : BitVec 2) (v : Byte) (s : State) : s.Kept (s.writePia id off v) := by
  unfold State.writePia
  refine State.Kept.trans ?_ (State.kept_piaNotify _ _ _ _)
  split
  · split
    · exact (s.kept_setPia _ _).trans (State.kept_afterOra _ _)
    · exact s.kept_setPia _ _
  · exact (s.kept_setPia _ _).trans (State.kept_afterCra _ _)
  · split
    · exact (s.kept_setPia _ _).trans (State.kept_afterOrb _ _ _)
    · exact s.kept_setPia _ _
  · exact (s.kept_setPia _ _).trans (State.kept_afterCrb _ _)

theorem State.kept_withImage {f : State → State} {s : State} (h : s.Kept (f s)) : s.Kept (s.withImage f) := by
  unfold State.withImage
  split
  · exact .refl s
  · exact h

theorem State.kept_diskCommand (v : Byte) (s : State) : s.Kept (s.diskCommand v) := by
  unfold State.diskCommand
  refine (s.kept_mapDisk fun d => { d with cmd := v }).trans ?_
  dsimp only
  split
  · exact State.kept_withImage (State.kept_mapDisk _ _)
  · exact State.kept_withImage (State.kept_mapDisk _ _)
  · refine State.kept_withImage ?_
    unfold State.diskReadSector
    dsimp only
    split <;> exact State.kept_mapDisk _ _
  · refine State.kept_withImage ?_
    unfold State.diskWriteSector
    dsimp only
    split <;> exact State.kept_mapDisk _ _
  · exact State.kept_withImage (State.kept_mapDisk _ _)
  · exact State.kept_mapDisk _ _
  · exact State.kept_withImage (State.kept_mapDisk _ _)
  · exact ⟨rfl, rfl, rfl, rfl, rfl, rfl, rfl, rfl, rfl, rfl, rfl, rfl, rfl, rfl⟩

theorem State.kept_finishWriteSector (s : State) : s.Kept s.finishWriteSector := by
  unfold State.finishWriteSector
  dsimp only
  split
  · exact (State.kept_mapImage _ _).trans (State.kept_mapDisk _ _)
  · exact State.kept_mapDisk _ _

theorem State.kept_finishWriteTrack (s : State) : s.Kept s.finishWriteTrack := by
  unfold State.finishWriteTrack
  dsimp only
  split
  · exact (State.kept_mapImage _ _).trans (State.kept_mapDisk _ _)
  · exact State.kept_mapDisk _ _

theorem State.kept_diskWriteData (v : Byte) (s : State) : s.Kept (s.diskWriteData v) := by
  unfold State.diskWriteData
  dsimp only
  split
  · split
    · split
      · exact (State.kept_mapDisk _ _).trans (State.kept_finishWriteSector _)
      · exact (State.kept_mapDisk _ _).trans (State.kept_finishWriteTrack _)
    · exact State.kept_mapDisk _ _
  · exact State.kept_mapDisk _ _

theorem State.kept_writeDisk (off : Nat) (v : Byte) (s : State) : s.Kept (s.writeDisk off v) := by
  unfold State.writeDisk
  split
  · exact s.kept_diskCommand v
  · exact s.kept_mapDisk _
  · exact s.kept_mapDisk _
  · exact s.kept_diskWriteData v
  · exact (s.kept_mapDisk _).trans (State.kept_call _ _)
  · exact .refl s

theorem State.kept_readPia (id : PiaId) (off : BitVec 2) (s : State) : s.Kept (s.readPia id off).2 := by
  rcases s.readPia_state id off with h | h | h <;> rw [h]
  · exact .refl s
  · cases id <;> exact ⟨rfl, rfl, rfl, rfl, rfl, rfl, rfl, rfl, rfl, rfl, rfl, rfl, rfl, rfl⟩
  · cases id <;> exact ⟨rfl, rfl, rfl, rfl, rfl, rfl, rfl, rfl, rfl, rfl, rfl, rfl, rfl, rfl⟩

/-- A read keeps all that `Kept` names. -/
theorem State.kept_readByte (a : Word) (s : State) : s.Kept (s.readByte a).2 := by
  rcases s.readByte_state a with h | ⟨_, _, h⟩ | ⟨_, h⟩ | h <;> rw [h]
  · exact .refl s
  · exact s.kept_readPia _ _
  · exact s.kept_mapDisk _
  · exact s.kept_draw

theorem State.kept_feedTape (b : Byte) (s : State) : s.Kept (s.feedTape b) := by
  unfold State.feedTape
  dsimp only
  split <;> exact ⟨rfl, rfl, rfl, rfl, rfl, rfl, rfl, rfl, rfl, rfl, rfl, rfl, rfl, rfl⟩

/-- What one bus write can do: set the byte of its own cell or leave memory alone, and beyond that only what `Kept`
allows. -/
theorem State.writeByte_kept (a : Word) (v : Byte) (s : State) :
    (s.poke a v).Kept (s.writeByte a v) ∨ s.Kept (s.writeByte a v) := by
  unfold State.writeByte
  split
  · exact .inl (.refl _)
  · exact .inr (.refl s)
  · exact .inr (.refl s)
  · left
    unfold State.tapeWrite
    dsimp only
    have h0 : ∀ n, (s.poke a v).Kept ((s.poke a v).mapDev fun d => { d with tape := { d.tape with callCount := n } }) :=
      fun n => ⟨rfl, rfl, rfl, rfl, rfl, rfl, rfl, rfl, rfl, rfl, rfl, rfl, rfl, rfl⟩
    split
    · exact ((h0 _).trans (State.kept_readByte _ _)).trans (State.kept_feedTape _ _)
    · exact h0 _
  · exact .inr (s.kept_writePia _ _ _)
  · exact .inr (s.kept_writePia _ _ _)
  · exact .inr (s.kept_writeDisk _ _)
  · exact .inr ⟨rfl, rfl, rfl, rfl, rfl, rfl, rfl, rfl, rfl, rfl, rfl, rfl, rfl, rfl⟩

@[simp] theorem State.writeByte_regs (a : Word) (v : Byte) (s : State) : (s.writeByte a v).regs = s.regs := by
  rcases s.writeByte_kept a v with h | h
  · exact h.regs
  · exact h.regs

@[simp] theorem State.writeWord_regs (a v : Word) (s : State) : (s.writeWord a v).regs = s.regs := by
  simp [State.writeWord]

@[simp] theorem State.writeByte_cpuState (a : Word) (v : Byte) (s : State) : (s.writeByte a v).cpuState = s.cpuState := by
  rcases s.writeByte_kept a v with h | h
  · exact h.cpuState
  · exact h.cpuState

@[simp] theorem State.writeWord_cpuState (a v : Word) (s : State) : (s.writeWord a v).cpuState = s.cpuState := by
  simp [State.writeWord]

@[simp] theorem State.writeByte_lastPc (a : Word) (v : Byte) (s : State) : (s.writeByte a v).lastPc = s.lastPc := by
  rcases s.writeByte_kept a v with h | h
  · exact h.lastPc
  · exact h.lastPc

@[simp] theorem State.writeWord_lastPc (a v : Word) (s : State) : (s.writeWord a v).lastPc = s.lastPc := by
  simp [State.writeWord]

@[simp] theorem State.writeByte_lastOpcodeBytes (a : Word) (v : Byte) (s : State) : (s.writeByte a v).lastOpcodeBytes = s.lastOpcodeBytes := by
  rcases s.writeByte_kept a v with h | h
  · exact h.lastOpcodeBytes
  · exact h.lastOpcodeBytes

@[simp] theorem State.writeWord_lastOpcodeBytes (a v : Word) (s : State) : (s.writeWord a v).lastOpcodeBytes = s.lastOpcodeBytes := by
  simp [State.writeWord]

@[simp] theorem State.writeByte_tags (a : Word) (v : Byte) (s : State) : (s.writeByte a v).tags = s.tags := by
  rcases s.writeByte_kept a v with h | h
  · exact h.tags
  · exact h.tags

@[simp] theorem State.writeWord_tags (a v : Word) (s : State) : (s.writeWord a v).tags = s.tags := by
  simp [State.writeWord]

@[simp] theorem State.writeByte_nmiArmed (a : Word) (v : Byte) (s : State) : (s.writeByte a v).lines.nmiArmed = s.lines.nmiArmed := by
  rcases s.writeByte_kept a v with h | h
  · exact h.armed
  · exact h.armed

@[simp] theorem State.writeWord_nmiArmed (a v : Word) (s : State) : (s.writeWord a v).lines.nmiArmed = s.lines.nmiArmed := by
  simp [State.writeWord]

@[simp] theorem State.writeByte_nmiReq (a : Word) (v : Byte) (s : State) : (s.writeByte a v).lines.nmiReq = s.lines.nmiReq := by
  rcases s.writeByte_kept a v with h | h
  · exact h.nmi
  · exact h.nmi

@[simp] theorem State.writeWord_nmiReq (a v : Word) (s : State) : (s.writeWord a v).lines.nmiReq = s.lines.nmiReq := by
  simp [State.writeWord]

@[simp] theorem State.writeByte_answers (a : Word) (v : Byte) (s : State) : (s.writeByte a v).host.answers = s.host.answers := by
  rcases s.writeByte_kept a v with h | h
  · exact h.answers
  · exact h.answers

@[simp] theorem State.writeWord_answers (a v : Word) (s : State) : (s.writeWord a v).host.answers = s.host.answers := by
  simp [State.writeWord]

@[simp] theorem State.writeByte_halted (a : Word) (v : Byte) (s : State) : (s.writeByte a v).exe.halted = s.exe.halted := by
  rcases s.writeByte_kept a v with h | h
  · exact h.halted
  · exact h.halted

@[simp] theorem State.writeWord_halted (a v : Word) (s : State) : (s.writeWord a v).exe.halted = s.exe.halted := by
  simp [State.writeWord]

@[simp] theorem State.writeByte_suspended (a : Word) (v : Byte) (s : State) : (s.writeByte a v).exe.suspended = s.exe.suspended := by
  rcases s.writeByte_kept a v with h | h
  · exact h.suspended
  · exact h.suspended

@[simp] theorem State.writeWord_suspended (a v : Word) (s : State) : (s.writeWord a v).exe.suspended = s.exe.suspended := by
  simp [State.writeWord]

@[simp] theorem State.writeByte_resumeState (a : Word) (v : Byte) (s : State) : (s.writeByte a v).exe.resumeState = s.exe.resumeState := by
  rcases s.writeByte_kept a v with h | h
  · exact h.resumeState
  · exact h.resumeState

@[simp] theorem State.writeWord_resumeState (a v : Word) (s : State) : (s.writeWord a v).exe.resumeState = s.exe.resumeState := by
  simp [State.writeWord]

@[simp] theorem State.writeByte_pressed (a : Word) (v : Byte) (s : State) : (s.writeByte a v).exe.resetPressedAt = s.exe.resetPressedAt := by
  rcases s.writeByte_kept a v with h | h
  · exact h.pressed
  · exact h.pressed

@[simp] theorem State.writeWord_pressed (a v : Word) (s : State) : (s.writeWord a v).exe.resetPressedAt = s.exe.resetPressedAt := by
  simp [State.writeWord]

@[simp] theorem State.writeByte_fnKey (a : Word) (v : Byte) (s : State) : (s.writeByte a v).dev.fnKey = s.dev.fnKey := by
  rcases s.writeByte_kept a v with h | h
  · exact h.fnKey
  · exact h.fnKey

@[simp] theorem State.writeWord_fnKey (a v : Word) (s : State) : (s.writeWord a v).dev.fnKey = s.dev.fnKey := by
  simp [State.writeWord]

/-- A poke is seen at its own address only. -/
theorem State.peek_poke (a b : Word) (v : Byte) (s : State) :
    (s.poke a v).peek b = if b = a then v else s.peek b := by
  simp only [State.peek, State.poke_mem, Memory.read_write]
  by_cases h : b = a
  · simp [h]
  · have : b.toNat ≠ a.toNat := fun e => h (BitVec.eq_of_toNat_eq e)
    simp [h, this]

/-- A write leaves every other cell. -/
theorem State.peek_writeByte_other {a b : Word} (v : Byte) (s : State) (h : b ≠ a) :
    (s.writeByte a v).peek b = s.peek b := by
  rcases s.writeByte_kept a v with k | k
  · rw [State.peek, k.mem]
    have := State.peek_poke a b v s
    rw [if_neg h] at this
    exact this
  · rw [State.peek, k.mem]
    rfl

/-- A write to a Ram cell is a poke. -/
theorem State.writeByte_ram {a : Word} (v : Byte) {s : State} (h : s.tagOf a = .ram) : s.writeByte a v = s.poke a v := by
  unfold State.writeByte
  rw [h]

/-- A write to a Rom cell is nothing. -/
theorem State.writeByte_rom {a : Word} (v : Byte) {s : State} (h : s.tagOf a = .rom) : s.writeByte a v = s := by
  unfold State.writeByte
  rw [h]

@[simp] theorem State.tagOf_mapRegs (a : Word) (f : Regs → Regs) (s : State) : (s.mapRegs f).tagOf a = s.tagOf a := rfl

@[simp] theorem State.tagOf_poke (a b : Word) (v : Byte) (s : State) : (s.poke b v).tagOf a = s.tagOf a := rfl

@[simp] theorem State.tagOf_readByte (a b : Word) (s : State) : (s.readByte b).2.tagOf a = s.tagOf a := by
  simp [State.tagOf]

@[simp] theorem State.tagOf_writeByte (a b : Word) (v : Byte) (s : State) : (s.writeByte b v).tagOf a = s.tagOf a := by
  simp [State.tagOf]

/-- Bus writes keep memory canonical and inside the address space. -/
theorem State.memory_writeByte (a : Word) (v : Byte) (s : State) (h : s.mem.wf = true ∧ s.mem.below 65536 = true) :
    (s.writeByte a v).mem.wf = true ∧ (s.writeByte a v).mem.below 65536 = true := by
  rcases s.writeByte_kept a v with k | k <;> rw [k.mem]
  · exact ⟨Memory.wf_write _ _ h.1, Memory.below_write _ a.isLt h.2⟩
  · exact h

/-- The host's `load` keeps memory canonical and inside the address space. -/
theorem State.memory_load (a : Word) (bs : List Byte) (s : State) (h : s.mem.wf = true ∧ s.mem.below 65536 = true) :
    (s.load a bs).mem.wf = true ∧ (s.load a bs).mem.below 65536 = true := by
  induction bs generalizing a s with
  | nil => exact h
  | cons b rest ih => exact ih _ _ ⟨Memory.wf_write _ _ h.1, Memory.below_write _ a.isLt h.2⟩

/-- `load` changes memory only. -/
theorem State.load_eq (a : Word) (bs : List Byte) (s : State) : s.load a bs = { s with mem := (s.load a bs).mem } := by
  induction bs generalizing a s with
  | nil => rfl
  | cons b rest ih =>
    simp only [State.load]
    rw [ih (a + 1#16) (s.poke a b)]
    rfl

/-- The latch flags by the default layout (spec/63_disk.md R585). -/
theorem LatchLayout.latch_dragonDos (v : Byte) (d : Disk) :
    LatchLayout.dragonDos.latch v d =
      { d with drive := v.extractLsb' 0 2, motorOn := bit v 2, doubleDensity := !bit v 3, nmiInhibit := !bit v 5 } := by
  have drive : ∀ v : Byte, BitVec.ofBool (bit v 1) ++ BitVec.ofBool (bit v 0) = v.extractLsb' 0 2 := by decide
  simp [LatchLayout.latch, LatchLayout.dragonDos, LatchBit.value, drive]

end Sys2Proof.Machine
end

