-- ==== Sys2Proof/Laws/Flags.lean ====
section
/-! SUPPORT. The condition codes as a byte, and the results of the flag computations. -/

namespace Sys2Proof.Machine

/-- A flag as a bit of a byte. -/
theorem bit_flagBit (p : Bool) (k j : Nat) (hk : k < 8) (hj : j < 8) : bit (flagBit p k) j = (p && decide (j = k)) := by
  have key : ∀ (p : Bool) (k j : Fin 8), bit (flagBit p k.val) j.val = (p && decide (j = k)) := by decide
  have := key p ⟨k, hk⟩ ⟨j, hj⟩
  simpa [Fin.ext_iff] using this

@[simp] theorem CC.nz8_e (r : Byte) (cc : CC) : (CC.nz8 r cc).e = cc.e := rfl
@[simp] theorem CC.nz8_f (r : Byte) (cc : CC) : (CC.nz8 r cc).f = cc.f := rfl
@[simp] theorem CC.nz8_i (r : Byte) (cc : CC) : (CC.nz8 r cc).i = cc.i := rfl
@[simp] theorem CC.nz8_h (r : Byte) (cc : CC) : (CC.nz8 r cc).h = cc.h := rfl
@[simp] theorem CC.nz16_e (r : Word) (cc : CC) : (CC.nz16 r cc).e = cc.e := rfl
@[simp] theorem CC.nz16_f (r : Word) (cc : CC) : (CC.nz16 r cc).f = cc.f := rfl
@[simp] theorem CC.nz16_i (r : Word) (cc : CC) : (CC.nz16 r cc).i = cc.i := rfl
@[simp] theorem CC.nz16_h (r : Word) (cc : CC) : (CC.nz16 r cc).h = cc.h := rfl

/-- What an addition can do: the sum modulo 256, and no flag but H, N, Z, V, C. -/
theorem add8_result (a b : Byte) (c : Bool) (cc : CC) :
    (add8 a b c cc).1.toNat = (a.toNat + b.toNat + c.toNat) % 256 ∧ (add8 a b c cc).2.e = cc.e ∧
      (add8 a b c cc).2.f = cc.f ∧ (add8 a b c cc).2.i = cc.i := by
  refine ⟨?_, rfl, rfl, rfl⟩
  have ha := a.isLt
  have hb := b.isLt
  cases c <;> simp [add8, carryIn, BitVec.toNat_add]

/-- What a subtraction can do: the difference modulo 256, and no flag but N, Z, V, C. -/
theorem sub8_result (a b : Byte) (c : Bool) (cc : CC) :
    (sub8 a b c cc).1.toNat = (a.toNat + 512 - b.toNat - c.toNat) % 256 ∧ (sub8 a b c cc).2.e = cc.e ∧
      (sub8 a b c cc).2.f = cc.f ∧ (sub8 a b c cc).2.i = cc.i ∧ (sub8 a b c cc).2.h = cc.h := by
  refine ⟨?_, rfl, rfl, rfl, rfl⟩
  have ha := a.isLt
  have hb := b.isLt
  cases c <;> simp [sub8, carryIn, BitVec.toNat_sub] <;> omega

end Sys2Proof.Machine
end

