-- ==== Sys2Proof/Laws/Ops.lean ====
section
/-! SUPPORT. What the operations over registers and stacks can do. -/

namespace Sys2Proof.Machine

/-! ### Registers -/

@[simp] theorem Regs.setBase_base (k : IndexReg) (v : Word) (r : Regs) : (r.setBase k v).base k = v := by
  cases k <;> rfl

@[simp] theorem Regs.setBase_setBase (k : IndexReg) (v w : Word) (r : Regs) :
    (r.setBase k v).setBase k w = r.setBase k w := by
  cases k <;> rfl

@[simp] theorem Regs.setBase_cc (k : IndexReg) (v : Word) (r : Regs) : (r.setBase k v).cc = r.cc := by cases k <;> rfl
@[simp] theorem Regs.setBase_a (k : IndexReg) (v : Word) (r : Regs) : (r.setBase k v).a = r.a := by cases k <;> rfl
@[simp] theorem Regs.setBase_b (k : IndexReg) (v : Word) (r : Regs) : (r.setBase k v).b = r.b := by cases k <;> rfl
@[simp] theorem Regs.setBase_dp (k : IndexReg) (v : Word) (r : Regs) : (r.setBase k v).dp = r.dp := by cases k <;> rfl
@[simp] theorem Regs.setBase_pc (k : IndexReg) (v : Word) (r : Regs) : (r.setBase k v).pc = r.pc := by cases k <;> rfl

@[simp] theorem Regs.setAcc_cc (k : Acc) (v : Byte) (r : Regs) : (r.setAcc k v).cc = r.cc := by cases k <;> rfl
@[simp] theorem Regs.setAcc_acc (k : Acc) (v : Byte) (r : Regs) : (r.setAcc k v).acc k = v := by cases k <;> rfl

@[simp] theorem Regs.setD_cc (v : Word) (r : Regs) : (r.setD v).cc = r.cc := rfl

/-- What a register write can do: put the register, and arm NMI when it is S. -/
theorem State.writeReg_eq (k : Reg) (v : Word) (s : State) :
    s.writeReg k v =
      { s with regs := s.regs.put k v, lines := { s.lines with nmiArmed := s.lines.nmiArmed || k == .s } } := by
  unfold State.writeReg
  by_cases h : k = .s
  · subst h
    simp [State.armNmi, State.mapRegs]
  · have hk : (k == Reg.s) = false := by simpa using h
    simp [h, hk, State.mapRegs]

/-! ### Stacks -/

@[simp] theorem State.push8_regs (k : StackReg) (v : Byte) (s : State) :
    (s.push8 k v).regs = s.regs.setBase k.reg (s.regs.base k.reg - 1#16) := by
  simp [State.push8]

@[simp] theorem State.push16_regs (k : StackReg) (v : Word) (s : State) :
    (s.push16 k v).regs = s.regs.setBase k.reg (s.regs.base k.reg - 2#16) := by
  simp only [State.push16, State.push8_regs, Regs.setBase_base, Regs.setBase_setBase]
  congr 1
  bv_omega

@[simp] theorem State.pull8_regs (k : StackReg) (s : State) :
    (s.pull8 k).2.regs = s.regs.setBase k.reg (s.regs.base k.reg + 1#16) := by
  simp [State.pull8]

@[simp] theorem State.pull16_regs (k : StackReg) (s : State) :
    (s.pull16 k).2.regs = s.regs.setBase k.reg (s.regs.base k.reg + 2#16) := by
  simp only [State.pull16, State.pull8_regs, Regs.setBase_base, Regs.setBase_setBase]
  congr 1
  bv_omega

@[simp] theorem State.push8_cpuState (k : StackReg) (v : Byte) (s : State) : (s.push8 k v).cpuState = s.cpuState := by
  simp [State.push8]

@[simp] theorem State.push8_lastPc (k : StackReg) (v : Byte) (s : State) : (s.push8 k v).lastPc = s.lastPc := by
  simp [State.push8]

@[simp] theorem State.push8_lastOpcodeBytes (k : StackReg) (v : Byte) (s : State) : (s.push8 k v).lastOpcodeBytes = s.lastOpcodeBytes := by
  simp [State.push8]

@[simp] theorem State.push8_tags (k : StackReg) (v : Byte) (s : State) : (s.push8 k v).tags = s.tags := by
  simp [State.push8]

@[simp] theorem State.push8_nmiArmed (k : StackReg) (v : Byte) (s : State) : (s.push8 k v).lines.nmiArmed = s.lines.nmiArmed := by
  simp [State.push8]

@[simp] theorem State.push8_nmiReq (k : StackReg) (v : Byte) (s : State) : (s.push8 k v).lines.nmiReq = s.lines.nmiReq := by
  simp [State.push8]

@[simp] theorem State.push8_answers (k : StackReg) (v : Byte) (s : State) : (s.push8 k v).host.answers = s.host.answers := by
  simp [State.push8]

@[simp] theorem State.push8_halted (k : StackReg) (v : Byte) (s : State) : (s.push8 k v).exe.halted = s.exe.halted := by
  simp [State.push8]

@[simp] theorem State.push8_suspended (k : StackReg) (v : Byte) (s : State) : (s.push8 k v).exe.suspended = s.exe.suspended := by
  simp [State.push8]

@[simp] theorem State.push8_resumeState (k : StackReg) (v : Byte) (s : State) : (s.push8 k v).exe.resumeState = s.exe.resumeState := by
  simp [State.push8]

@[simp] theorem State.push8_pressed (k : StackReg) (v : Byte) (s : State) : (s.push8 k v).exe.resetPressedAt = s.exe.resetPressedAt := by
  simp [State.push8]

@[simp] theorem State.push8_fnKey (k : StackReg) (v : Byte) (s : State) : (s.push8 k v).dev.fnKey = s.dev.fnKey := by
  simp [State.push8]

@[simp] theorem State.push16_cpuState (k : StackReg) (v : Word) (s : State) : (s.push16 k v).cpuState = s.cpuState := by
  simp [State.push16]

@[simp] theorem State.push16_lastPc (k : StackReg) (v : Word) (s : State) : (s.push16 k v).lastPc = s.lastPc := by
  simp [State.push16]

@[simp] theorem State.push16_lastOpcodeBytes (k : StackReg) (v : Word) (s : State) : (s.push16 k v).lastOpcodeBytes = s.lastOpcodeBytes := by
  simp [State.push16]

@[simp] theorem State.push16_tags (k : StackReg) (v : Word) (s : State) : (s.push16 k v).tags = s.tags := by
  simp [State.push16]

@[simp] theorem State.push16_nmiArmed (k : StackReg) (v : Word) (s : State) : (s.push16 k v).lines.nmiArmed = s.lines.nmiArmed := by
  simp [State.push16]

@[simp] theorem State.push16_nmiReq (k : StackReg) (v : Word) (s : State) : (s.push16 k v).lines.nmiReq = s.lines.nmiReq := by
  simp [State.push16]

@[simp] theorem State.push16_answers (k : StackReg) (v : Word) (s : State) : (s.push16 k v).host.answers = s.host.answers := by
  simp [State.push16]

@[simp] theorem State.push16_halted (k : StackReg) (v : Word) (s : State) : (s.push16 k v).exe.halted = s.exe.halted := by
  simp [State.push16]

@[simp] theorem State.push16_suspended (k : StackReg) (v : Word) (s : State) : (s.push16 k v).exe.suspended = s.exe.suspended := by
  simp [State.push16]

@[simp] theorem State.push16_resumeState (k : StackReg) (v : Word) (s : State) : (s.push16 k v).exe.resumeState = s.exe.resumeState := by
  simp [State.push16]

@[simp] theorem State.push16_pressed (k : StackReg) (v : Word) (s : State) : (s.push16 k v).exe.resetPressedAt = s.exe.resetPressedAt := by
  simp [State.push16]

@[simp] theorem State.push16_fnKey (k : StackReg) (v : Word) (s : State) : (s.push16 k v).dev.fnKey = s.dev.fnKey := by
  simp [State.push16]

@[simp] theorem State.pull8_cpuState (k : StackReg) (s : State) : (s.pull8 k).2.cpuState = s.cpuState := by
  simp [State.pull8]

@[simp] theorem State.pull8_lines (k : StackReg) (s : State) : (s.pull8 k).2.lines = s.lines := by
  simp [State.pull8]

@[simp] theorem State.pull8_lastPc (k : StackReg) (s : State) : (s.pull8 k).2.lastPc = s.lastPc := by
  simp [State.pull8]

@[simp] theorem State.pull8_lastOpcodeBytes (k : StackReg) (s : State) : (s.pull8 k).2.lastOpcodeBytes = s.lastOpcodeBytes := by
  simp [State.pull8]

@[simp] theorem State.pull8_mem (k : StackReg) (s : State) : (s.pull8 k).2.mem = s.mem := by
  simp [State.pull8]

@[simp] theorem State.pull8_tags (k : StackReg) (s : State) : (s.pull8 k).2.tags = s.tags := by
  simp [State.pull8]

@[simp] theorem State.pull8_exe (k : StackReg) (s : State) : (s.pull8 k).2.exe = s.exe := by
  simp [State.pull8]

@[simp] theorem State.pull16_cpuState (k : StackReg) (s : State) : (s.pull16 k).2.cpuState = s.cpuState := by
  simp [State.pull16]

@[simp] theorem State.pull16_lines (k : StackReg) (s : State) : (s.pull16 k).2.lines = s.lines := by
  simp [State.pull16]

@[simp] theorem State.pull16_lastPc (k : StackReg) (s : State) : (s.pull16 k).2.lastPc = s.lastPc := by
  simp [State.pull16]

@[simp] theorem State.pull16_lastOpcodeBytes (k : StackReg) (s : State) : (s.pull16 k).2.lastOpcodeBytes = s.lastOpcodeBytes := by
  simp [State.pull16]

@[simp] theorem State.pull16_mem (k : StackReg) (s : State) : (s.pull16 k).2.mem = s.mem := by
  simp [State.pull16]

@[simp] theorem State.pull16_tags (k : StackReg) (s : State) : (s.pull16 k).2.tags = s.tags := by
  simp [State.pull16]

@[simp] theorem State.pull16_exe (k : StackReg) (s : State) : (s.pull16 k).2.exe = s.exe := by
  simp [State.pull16]

@[simp] theorem State.tagOf_push8 (a : Word) (k : StackReg) (v : Byte) (s : State) : (s.push8 k v).tagOf a = s.tagOf a := by
  simp [State.tagOf]

@[simp] theorem State.tagOf_pull8 (a : Word) (k : StackReg) (s : State) : (s.pull8 k).2.tagOf a = s.tagOf a := by
  simp [State.tagOf]

/-- A push leaves every cell but the one below the pointer. -/
theorem State.peek_push8_other {a : Word} (k : StackReg) (v : Byte) (s : State) (h : a ≠ s.regs.base k.reg - 1#16) :
    (s.push8 k v).peek a = s.peek a := by
  unfold State.push8
  exact State.peek_writeByte_other v (s.mapRegs _) h

/-- A push onto a Ram cell puts the byte there and moves the pointer, and nothing else. -/
theorem State.push8_ram {k : StackReg} (v : Byte) {s : State} (h : s.tagOf (s.regs.base k.reg - 1#16) = .ram) :
    s.push8 k v =
      (s.mapRegs (Regs.setBase k.reg (s.regs.base k.reg - 1#16))).poke (s.regs.base k.reg - 1#16) v := by
  unfold State.push8
  exact State.writeByte_ram v (by simpa using h)

/-- A pull from a Ram or Rom cell gives its byte and moves the pointer, and nothing else. -/
theorem State.pull8_plain {k : StackReg} {s : State}
    (h : s.tagOf (s.regs.base k.reg) = .ram ∨ s.tagOf (s.regs.base k.reg) = .rom) :
    s.pull8 k = (s.peek (s.regs.base k.reg), s.mapRegs (Regs.setBase k.reg (s.regs.base k.reg + 1#16))) := by
  unfold State.pull8
  simp [State.readByte_plain h]

/-- The registers after the entire state is pushed: S is 12 lower. -/
@[simp] theorem State.pushEntire_regs (s : State) : s.pushEntire.regs = { s.regs with s := s.regs.s - 12#16 } := by
  simp only [State.pushEntire, State.push8_regs, State.push16_regs, StackReg.reg, Regs.setBase, Regs.base]
  congr 1
  bv_omega

@[simp] theorem State.pushShort_regs (s : State) : s.pushShort.regs = { s.regs with s := s.regs.s - 3#16 } := by
  simp only [State.pushShort, State.push8_regs, State.push16_regs, StackReg.reg, Regs.setBase, Regs.base]
  congr 1
  bv_omega

@[simp] theorem State.pushEntire_cpuState (s : State) : s.pushEntire.cpuState = s.cpuState := by
  simp [State.pushEntire]

@[simp] theorem State.pushEntire_lastPc (s : State) : s.pushEntire.lastPc = s.lastPc := by
  simp [State.pushEntire]

@[simp] theorem State.pushEntire_lastOpcodeBytes (s : State) : s.pushEntire.lastOpcodeBytes = s.lastOpcodeBytes := by
  simp [State.pushEntire]

@[simp] theorem State.pushEntire_tags (s : State) : s.pushEntire.tags = s.tags := by
  simp [State.pushEntire]

@[simp] theorem State.pushEntire_nmiArmed (s : State) : s.pushEntire.lines.nmiArmed = s.lines.nmiArmed := by
  simp [State.pushEntire]

@[simp] theorem State.pushEntire_nmiReq (s : State) : s.pushEntire.lines.nmiReq = s.lines.nmiReq := by
  simp [State.pushEntire]

@[simp] theorem State.pushEntire_answers (s : State) : s.pushEntire.host.answers = s.host.answers := by
  simp [State.pushEntire]

@[simp] theorem State.pushEntire_halted (s : State) : s.pushEntire.exe.halted = s.exe.halted := by
  simp [State.pushEntire]

@[simp] theorem State.pushEntire_suspended (s : State) : s.pushEntire.exe.suspended = s.exe.suspended := by
  simp [State.pushEntire]

@[simp] theorem State.pushEntire_resumeState (s : State) : s.pushEntire.exe.resumeState = s.exe.resumeState := by
  simp [State.pushEntire]

@[simp] theorem State.pushEntire_pressed (s : State) : s.pushEntire.exe.resetPressedAt = s.exe.resetPressedAt := by
  simp [State.pushEntire]

@[simp] theorem State.pushEntire_fnKey (s : State) : s.pushEntire.dev.fnKey = s.dev.fnKey := by
  simp [State.pushEntire]

@[simp] theorem State.pushShort_cpuState (s : State) : s.pushShort.cpuState = s.cpuState := by
  simp [State.pushShort]

@[simp] theorem State.pushShort_lastPc (s : State) : s.pushShort.lastPc = s.lastPc := by
  simp [State.pushShort]

@[simp] theorem State.pushShort_lastOpcodeBytes (s : State) : s.pushShort.lastOpcodeBytes = s.lastOpcodeBytes := by
  simp [State.pushShort]

@[simp] theorem State.pushShort_tags (s : State) : s.pushShort.tags = s.tags := by
  simp [State.pushShort]

@[simp] theorem State.pushShort_nmiArmed (s : State) : s.pushShort.lines.nmiArmed = s.lines.nmiArmed := by
  simp [State.pushShort]

@[simp] theorem State.pushShort_nmiReq (s : State) : s.pushShort.lines.nmiReq = s.lines.nmiReq := by
  simp [State.pushShort]

@[simp] theorem State.pushShort_answers (s : State) : s.pushShort.host.answers = s.host.answers := by
  simp [State.pushShort]

@[simp] theorem State.pushShort_halted (s : State) : s.pushShort.exe.halted = s.exe.halted := by
  simp [State.pushShort]

@[simp] theorem State.pushShort_suspended (s : State) : s.pushShort.exe.suspended = s.exe.suspended := by
  simp [State.pushShort]

@[simp] theorem State.pushShort_resumeState (s : State) : s.pushShort.exe.resumeState = s.exe.resumeState := by
  simp [State.pushShort]

@[simp] theorem State.pushShort_pressed (s : State) : s.pushShort.exe.resetPressedAt = s.exe.resetPressedAt := by
  simp [State.pushShort]

@[simp] theorem State.pushShort_fnKey (s : State) : s.pushShort.dev.fnKey = s.dev.fnKey := by
  simp [State.pushShort]

/-! ### Exceptions -/

/-- What the last part of an entry can do: the masks and PC. -/
theorem State.vectorTo_regs (e : Event) (s : State) :
    (s.vectorTo e).regs = { s.regs with cc := e.mask s.regs.cc, pc := ((s.setCC (e.mask s.regs.cc)).readWord e.vector).1 } := by
  simp [State.vectorTo]

@[simp] theorem State.vectorTo_mem (e : Event) (s : State) : (s.vectorTo e).mem = s.mem := by simp [State.vectorTo]

@[simp] theorem State.vectorTo_lines (e : Event) (s : State) : (s.vectorTo e).lines = s.lines := by simp [State.vectorTo]

@[simp] theorem State.vectorTo_tags (e : Event) (s : State) : (s.vectorTo e).tags = s.tags := by simp [State.vectorTo]

@[simp] theorem State.vectorTo_cpuState (e : Event) (s : State) : (s.vectorTo e).cpuState = s.cpuState := by
  simp [State.vectorTo]

/-- What taking an exception can do to the registers: S, CC and PC. -/
theorem State.takeException_regs (e : Event) (s : State) :
    (s.takeException e).regs =
      { s.regs with
        s := s.regs.s - (if e.entire then 12#16 else 3#16)
        cc := e.mask { s.regs.cc with e := e.entire }
        pc := (s.takeException e).regs.pc } := by
  simp only [State.takeException]
  rw [State.vectorTo_regs]
  cases h : e.entire <;> simp

/-- Taking an exception arms nothing, clears no NMI and changes no tag. -/
theorem State.takeException_kept (e : Event) (s : State) :
    (s.takeException e).lines.nmiArmed = s.lines.nmiArmed ∧ (s.takeException e).lines.nmiReq = s.lines.nmiReq ∧
      (s.takeException e).tags = s.tags ∧ (s.takeException e).cpuState = s.cpuState := by
  simp only [State.takeException]
  cases h : e.entire <;> simp

end Sys2Proof.Machine
end

