-- ==== Sys2Proof/Laws/Operands.lean ====
section
/-! SUPPORT. What computing an address and reading an operand can do, and what each shape of a data instruction can do. -/

namespace Sys2Proof.Machine

/-- The address computation writes the base register of the form, if any register at all. -/
theorem indexAddress_regs (f : IndexForm) (r : Regs) :
    (indexAddress f r).2 = r ∨ ∃ k v, (indexAddress f r).2 = r.setBase k v := by
  cases f
  all_goals first
    | exact .inl rfl
    | exact .inr ⟨_, _, rfl⟩

@[simp] theorem State.indexedEA_mem (ix : Indexed) (s : State) : (s.indexedEA ix).2.mem = s.mem := by
  unfold State.indexedEA
  dsimp only
  split <;> simp

@[simp] theorem State.indexedEA_tags (ix : Indexed) (s : State) : (s.indexedEA ix).2.tags = s.tags := by
  unfold State.indexedEA
  dsimp only
  split <;> simp

@[simp] theorem State.indexedEA_lines (ix : Indexed) (s : State) : (s.indexedEA ix).2.lines = s.lines := by
  unfold State.indexedEA
  dsimp only
  split <;> simp

@[simp] theorem State.indexedEA_cpuState (ix : Indexed) (s : State) : (s.indexedEA ix).2.cpuState = s.cpuState := by
  unfold State.indexedEA
  dsimp only
  split <;> simp

@[simp] theorem State.indexedEA_exe (ix : Indexed) (s : State) : (s.indexedEA ix).2.exe = s.exe := by
  unfold State.indexedEA
  dsimp only
  split <;> simp

/-- The registers after an indexed address computation: the form's step, whether or not it is indirect. -/
@[simp] theorem State.indexedEA_regs (ix : Indexed) (s : State) :
    (s.indexedEA ix).2.regs = (indexAddress ix.form s.regs).2 := by
  unfold State.indexedEA
  dsimp only
  split <;> simp

@[simp] theorem State.ea_mem (m : MemOperand) (s : State) : (s.ea m).2.mem = s.mem := by
  cases m <;> simp [State.ea]

@[simp] theorem State.ea_tags (m : MemOperand) (s : State) : (s.ea m).2.tags = s.tags := by
  cases m <;> simp [State.ea]

@[simp] theorem State.ea_lines (m : MemOperand) (s : State) : (s.ea m).2.lines = s.lines := by
  cases m <;> simp [State.ea]

@[simp] theorem State.ea_cpuState (m : MemOperand) (s : State) : (s.ea m).2.cpuState = s.cpuState := by
  cases m <;> simp [State.ea]

@[simp] theorem State.ea_exe (m : MemOperand) (s : State) : (s.ea m).2.exe = s.exe := by
  cases m <;> simp [State.ea]

/-- The flags do not change while an address is computed. -/
theorem State.ea_cc (m : MemOperand) (s : State) : (s.ea m).2.regs.cc = s.regs.cc := by
  cases m with
  | dir lo => rfl
  | ext a => rfl
  | idx ix =>
    simp only [State.ea, State.indexedEA_regs]
    rcases indexAddress_regs ix.form s.regs with h | ⟨k, v, h⟩ <;> rw [h]
    simp

@[simp] theorem State.operand8_mem (o : Operand8) (s : State) : (s.operand8 o).2.mem = s.mem := by
  cases o <;> simp [State.operand8]

@[simp] theorem State.operand8_tags (o : Operand8) (s : State) : (s.operand8 o).2.tags = s.tags := by
  cases o <;> simp [State.operand8]

@[simp] theorem State.operand8_lines (o : Operand8) (s : State) : (s.operand8 o).2.lines = s.lines := by
  cases o <;> simp [State.operand8]

@[simp] theorem State.operand16_mem (o : Operand16) (s : State) : (s.operand16 o).2.mem = s.mem := by
  cases o <;> simp [State.operand16]

@[simp] theorem State.operand16_tags (o : Operand16) (s : State) : (s.operand16 o).2.tags = s.tags := by
  cases o <;> simp [State.operand16]

@[simp] theorem State.operand16_lines (o : Operand16) (s : State) : (s.operand16 o).2.lines = s.lines := by
  cases o <;> simp [State.operand16]

/-! ### Shapes -/

/-- An operation of an accumulator and an operand keeps memory, latches and tags. -/
theorem State.accOp_kept (f : Byte → Byte → CC → Byte × CC) (k : Acc) (o : Operand8) (s : State) :
    (s.accOp f k o).mem = s.mem ∧ (s.accOp f k o).lines = s.lines ∧ (s.accOp f k o).tags = s.tags := by
  simp [State.accOp]

theorem State.accTest_kept (f : Byte → Byte → CC → Byte × CC) (k : Acc) (o : Operand8) (s : State) :
    (s.accTest f k o).mem = s.mem ∧ (s.accTest f k o).lines = s.lines ∧ (s.accTest f k o).tags = s.tags := by
  simp [State.accTest]

/-- A read-modify-write changes memory at most in the cell of its address. -/
theorem State.rmw_other (f : Byte → CC → Byte × CC) (m : MemOperand) (s : State) {a : Word} (h : a ≠ (s.ea m).1) :
    (s.rmw f m).peek a = s.peek a := by
  unfold State.rmw
  have h1 := State.peek_writeByte_other (f ((s.ea m).2.readByte (s.ea m).1).1 ((s.ea m).2.readByte (s.ea m).1).2.regs.cc).1
    ((s.ea m).2.readByte (s.ea m).1).2 h
  simpa [State.peek] using h1

/-- An 8-bit store changes memory at most in the cell of its address. -/
theorem State.store8_other (k : Acc) (m : MemOperand) (s : State) {a : Word} (h : a ≠ (s.ea m).1) :
    (s.store8 k m).peek a = s.peek a := by
  unfold State.store8
  have h1 := State.peek_writeByte_other ((s.ea m).2.regs.acc k) (s.ea m).2 h
  simpa [State.peek] using h1

/-- A branch changes PC only. -/
theorem State.branch_eq (p : Bool) (off : Word) (s : State) :
    s.branch p off = s.setPC (if p then s.regs.pc + off else s.regs.pc) := by
  unfold State.branch
  cases p <;> rfl

end Sys2Proof.Machine
end

