-- ==== Sys2Proof/Laws/PerInstr.lean ====
section
/-! SUPPORT. The per-instruction family: an encoding is 1 to 5 bytes long and begins with its opcode's page
(spec/30_encoding.md R120, R151). -/

namespace Sys2Proof.Laws

/-- An instruction is encoded in 1 to 5 bytes (R120). -/
def EncodedLength.Statement (i : Instr) : Prop := 1 ≤ (encode i).length ∧ (encode i).length ≤ maxLength

/-- An indexed operand takes 1 to 3 bytes (R131). -/
theorem encodeIndexed_length (ix : Indexed) : 1 ≤ (encodeIndexed ix).length ∧ (encodeIndexed ix).length ≤ 3 := by
  obtain ⟨f, i⟩ := ix
  cases f <;> simp [encodeIndexed, wordBytes]

/-- An opcode, with or without a page prefix, before an indexed operand. -/
theorem opcode_indexed_length (pre : List Byte) (ix : Indexed) (h : (pre.length == 1 || pre.length == 2) = true) :
    1 ≤ (pre ++ encodeIndexed ix).length ∧ (pre ++ encodeIndexed ix).length ≤ maxLength := by
  have := encodeIndexed_length ix
  simp only [Bool.or_eq_true, beq_iff_eq] at h
  simp only [List.length_append, maxLength]
  omega

/-- A length that is 1 to 5 by evaluation. -/
theorem length_of_eval (n : Nat) (h : (Nat.ble 1 n && Nat.ble n 5) = true) : 1 ≤ n ∧ n ≤ maxLength := by
  simp only [Bool.and_eq_true, Nat.ble_eq] at h
  exact h

theorem EncodedLength.negDir (lo : Byte) : EncodedLength.Statement (.negDir lo) :=
  length_of_eval _ rfl

theorem EncodedLength.comDir (lo : Byte) : EncodedLength.Statement (.comDir lo) :=
  length_of_eval _ rfl

theorem EncodedLength.lsrDir (lo : Byte) : EncodedLength.Statement (.lsrDir lo) :=
  length_of_eval _ rfl

theorem EncodedLength.rorDir (lo : Byte) : EncodedLength.Statement (.rorDir lo) :=
  length_of_eval _ rfl

theorem EncodedLength.asrDir (lo : Byte) : EncodedLength.Statement (.asrDir lo) :=
  length_of_eval _ rfl

theorem EncodedLength.lslDir (lo : Byte) : EncodedLength.Statement (.lslDir lo) :=
  length_of_eval _ rfl

theorem EncodedLength.rolDir (lo : Byte) : EncodedLength.Statement (.rolDir lo) :=
  length_of_eval _ rfl

theorem EncodedLength.decDir (lo : Byte) : EncodedLength.Statement (.decDir lo) :=
  length_of_eval _ rfl

theorem EncodedLength.incDir (lo : Byte) : EncodedLength.Statement (.incDir lo) :=
  length_of_eval _ rfl

theorem EncodedLength.tstDir (lo : Byte) : EncodedLength.Statement (.tstDir lo) :=
  length_of_eval _ rfl

theorem EncodedLength.jmpDir (lo : Byte) : EncodedLength.Statement (.jmpDir lo) :=
  length_of_eval _ rfl

theorem EncodedLength.clrDir (lo : Byte) : EncodedLength.Statement (.clrDir lo) :=
  length_of_eval _ rfl

theorem EncodedLength.nop : EncodedLength.Statement .nop :=
  length_of_eval _ rfl

theorem EncodedLength.sync : EncodedLength.Statement .sync :=
  length_of_eval _ rfl

theorem EncodedLength.lbra (off : Word) : EncodedLength.Statement (.lbra off) :=
  length_of_eval _ rfl

theorem EncodedLength.lbsr (off : Word) : EncodedLength.Statement (.lbsr off) :=
  length_of_eval _ rfl

theorem EncodedLength.daa : EncodedLength.Statement .daa :=
  length_of_eval _ rfl

theorem EncodedLength.orcc (v : Byte) : EncodedLength.Statement (.orcc v) :=
  length_of_eval _ rfl

theorem EncodedLength.andcc (v : Byte) : EncodedLength.Statement (.andcc v) :=
  length_of_eval _ rfl

theorem EncodedLength.sex : EncodedLength.Statement .sex :=
  length_of_eval _ rfl

theorem EncodedLength.exg (src : Reg) (dst : Reg) : EncodedLength.Statement (.exg src dst) :=
  length_of_eval _ rfl

theorem EncodedLength.tfr (src : Reg) (dst : Reg) : EncodedLength.Statement (.tfr src dst) :=
  length_of_eval _ rfl

theorem EncodedLength.bra (off : Byte) : EncodedLength.Statement (.bra off) :=
  length_of_eval _ rfl

theorem EncodedLength.brn (off : Byte) : EncodedLength.Statement (.brn off) :=
  length_of_eval _ rfl

theorem EncodedLength.bhi (off : Byte) : EncodedLength.Statement (.bhi off) :=
  length_of_eval _ rfl

theorem EncodedLength.bls (off : Byte) : EncodedLength.Statement (.bls off) :=
  length_of_eval _ rfl

theorem EncodedLength.bhs (off : Byte) : EncodedLength.Statement (.bhs off) :=
  length_of_eval _ rfl

theorem EncodedLength.blo (off : Byte) : EncodedLength.Statement (.blo off) :=
  length_of_eval _ rfl

theorem EncodedLength.bne (off : Byte) : EncodedLength.Statement (.bne off) :=
  length_of_eval _ rfl

theorem EncodedLength.beq (off : Byte) : EncodedLength.Statement (.beq off) :=
  length_of_eval _ rfl

theorem EncodedLength.bvc (off : Byte) : EncodedLength.Statement (.bvc off) :=
  length_of_eval _ rfl

theorem EncodedLength.bvs (off : Byte) : EncodedLength.Statement (.bvs off) :=
  length_of_eval _ rfl

theorem EncodedLength.bpl (off : Byte) : EncodedLength.Statement (.bpl off) :=
  length_of_eval _ rfl

theorem EncodedLength.bmi (off : Byte) : EncodedLength.Statement (.bmi off) :=
  length_of_eval _ rfl

theorem EncodedLength.bge (off : Byte) : EncodedLength.Statement (.bge off) :=
  length_of_eval _ rfl

theorem EncodedLength.blt (off : Byte) : EncodedLength.Statement (.blt off) :=
  length_of_eval _ rfl

theorem EncodedLength.bgt (off : Byte) : EncodedLength.Statement (.bgt off) :=
  length_of_eval _ rfl

theorem EncodedLength.ble (off : Byte) : EncodedLength.Statement (.ble off) :=
  length_of_eval _ rfl

theorem EncodedLength.leax (ix : Indexed) : EncodedLength.Statement (.leax ix) :=
  opcode_indexed_length [0x30] ix rfl

theorem EncodedLength.leay (ix : Indexed) : EncodedLength.Statement (.leay ix) :=
  opcode_indexed_length [0x31] ix rfl

theorem EncodedLength.leas (ix : Indexed) : EncodedLength.Statement (.leas ix) :=
  opcode_indexed_length [0x32] ix rfl

theorem EncodedLength.leau (ix : Indexed) : EncodedLength.Statement (.leau ix) :=
  opcode_indexed_length [0x33] ix rfl

theorem EncodedLength.pshs (pb : Byte) : EncodedLength.Statement (.pshs pb) :=
  length_of_eval _ rfl

theorem EncodedLength.puls (pb : Byte) : EncodedLength.Statement (.puls pb) :=
  length_of_eval _ rfl

theorem EncodedLength.pshu (pb : Byte) : EncodedLength.Statement (.pshu pb) :=
  length_of_eval _ rfl

theorem EncodedLength.pulu (pb : Byte) : EncodedLength.Statement (.pulu pb) :=
  length_of_eval _ rfl

theorem EncodedLength.rts : EncodedLength.Statement .rts :=
  length_of_eval _ rfl

theorem EncodedLength.abx : EncodedLength.Statement .abx :=
  length_of_eval _ rfl

theorem EncodedLength.rti : EncodedLength.Statement .rti :=
  length_of_eval _ rfl

theorem EncodedLength.cwai (v : Byte) : EncodedLength.Statement (.cwai v) :=
  length_of_eval _ rfl

theorem EncodedLength.mul : EncodedLength.Statement .mul :=
  length_of_eval _ rfl

theorem EncodedLength.swi : EncodedLength.Statement .swi :=
  length_of_eval _ rfl

theorem EncodedLength.nega : EncodedLength.Statement .nega :=
  length_of_eval _ rfl

theorem EncodedLength.coma : EncodedLength.Statement .coma :=
  length_of_eval _ rfl

theorem EncodedLength.lsra : EncodedLength.Statement .lsra :=
  length_of_eval _ rfl

theorem EncodedLength.rora : EncodedLength.Statement .rora :=
  length_of_eval _ rfl

theorem EncodedLength.asra : EncodedLength.Statement .asra :=
  length_of_eval _ rfl

theorem EncodedLength.lsla : EncodedLength.Statement .lsla :=
  length_of_eval _ rfl

theorem EncodedLength.rola : EncodedLength.Statement .rola :=
  length_of_eval _ rfl

theorem EncodedLength.deca : EncodedLength.Statement .deca :=
  length_of_eval _ rfl

theorem EncodedLength.inca : EncodedLength.Statement .inca :=
  length_of_eval _ rfl

theorem EncodedLength.tsta : EncodedLength.Statement .tsta :=
  length_of_eval _ rfl

theorem EncodedLength.clra : EncodedLength.Statement .clra :=
  length_of_eval _ rfl

theorem EncodedLength.negb : EncodedLength.Statement .negb :=
  length_of_eval _ rfl

theorem EncodedLength.comb : EncodedLength.Statement .comb :=
  length_of_eval _ rfl

theorem EncodedLength.lsrb : EncodedLength.Statement .lsrb :=
  length_of_eval _ rfl

theorem EncodedLength.rorb : EncodedLength.Statement .rorb :=
  length_of_eval _ rfl

theorem EncodedLength.asrb : EncodedLength.Statement .asrb :=
  length_of_eval _ rfl

theorem EncodedLength.lslb : EncodedLength.Statement .lslb :=
  length_of_eval _ rfl

theorem EncodedLength.rolb : EncodedLength.Statement .rolb :=
  length_of_eval _ rfl

theorem EncodedLength.decb : EncodedLength.Statement .decb :=
  length_of_eval _ rfl

theorem EncodedLength.incb : EncodedLength.Statement .incb :=
  length_of_eval _ rfl

theorem EncodedLength.tstb : EncodedLength.Statement .tstb :=
  length_of_eval _ rfl

theorem EncodedLength.clrb : EncodedLength.Statement .clrb :=
  length_of_eval _ rfl

theorem EncodedLength.negIdx (ix : Indexed) : EncodedLength.Statement (.negIdx ix) :=
  opcode_indexed_length [0x60] ix rfl

theorem EncodedLength.comIdx (ix : Indexed) : EncodedLength.Statement (.comIdx ix) :=
  opcode_indexed_length [0x63] ix rfl

theorem EncodedLength.lsrIdx (ix : Indexed) : EncodedLength.Statement (.lsrIdx ix) :=
  opcode_indexed_length [0x64] ix rfl

theorem EncodedLength.rorIdx (ix : Indexed) : EncodedLength.Statement (.rorIdx ix) :=
  opcode_indexed_length [0x66] ix rfl

theorem EncodedLength.asrIdx (ix : Indexed) : EncodedLength.Statement (.asrIdx ix) :=
  opcode_indexed_length [0x67] ix rfl

theorem EncodedLength.lslIdx (ix : Indexed) : EncodedLength.Statement (.lslIdx ix) :=
  opcode_indexed_length [0x68] ix rfl

theorem EncodedLength.rolIdx (ix : Indexed) : EncodedLength.Statement (.rolIdx ix) :=
  opcode_indexed_length [0x69] ix rfl

theorem EncodedLength.decIdx (ix : Indexed) : EncodedLength.Statement (.decIdx ix) :=
  opcode_indexed_length [0x6A] ix rfl

theorem EncodedLength.incIdx (ix : Indexed) : EncodedLength.Statement (.incIdx ix) :=
  opcode_indexed_length [0x6C] ix rfl

theorem EncodedLength.tstIdx (ix : Indexed) : EncodedLength.Statement (.tstIdx ix) :=
  opcode_indexed_length [0x6D] ix rfl

theorem EncodedLength.jmpIdx (ix : Indexed) : EncodedLength.Statement (.jmpIdx ix) :=
  opcode_indexed_length [0x6E] ix rfl

theorem EncodedLength.clrIdx (ix : Indexed) : EncodedLength.Statement (.clrIdx ix) :=
  opcode_indexed_length [0x6F] ix rfl

theorem EncodedLength.negExt (a : Word) : EncodedLength.Statement (.negExt a) :=
  length_of_eval _ rfl

theorem EncodedLength.comExt (a : Word) : EncodedLength.Statement (.comExt a) :=
  length_of_eval _ rfl

theorem EncodedLength.lsrExt (a : Word) : EncodedLength.Statement (.lsrExt a) :=
  length_of_eval _ rfl

theorem EncodedLength.rorExt (a : Word) : EncodedLength.Statement (.rorExt a) :=
  length_of_eval _ rfl

theorem EncodedLength.asrExt (a : Word) : EncodedLength.Statement (.asrExt a) :=
  length_of_eval _ rfl

theorem EncodedLength.lslExt (a : Word) : EncodedLength.Statement (.lslExt a) :=
  length_of_eval _ rfl

theorem EncodedLength.rolExt (a : Word) : EncodedLength.Statement (.rolExt a) :=
  length_of_eval _ rfl

theorem EncodedLength.decExt (a : Word) : EncodedLength.Statement (.decExt a) :=
  length_of_eval _ rfl

theorem EncodedLength.incExt (a : Word) : EncodedLength.Statement (.incExt a) :=
  length_of_eval _ rfl

theorem EncodedLength.tstExt (a : Word) : EncodedLength.Statement (.tstExt a) :=
  length_of_eval _ rfl

theorem EncodedLength.jmpExt (a : Word) : EncodedLength.Statement (.jmpExt a) :=
  length_of_eval _ rfl

theorem EncodedLength.clrExt (a : Word) : EncodedLength.Statement (.clrExt a) :=
  length_of_eval _ rfl

theorem EncodedLength.subaImm (v : Byte) : EncodedLength.Statement (.subaImm v) :=
  length_of_eval _ rfl

theorem EncodedLength.cmpaImm (v : Byte) : EncodedLength.Statement (.cmpaImm v) :=
  length_of_eval _ rfl

theorem EncodedLength.sbcaImm (v : Byte) : EncodedLength.Statement (.sbcaImm v) :=
  length_of_eval _ rfl

theorem EncodedLength.subdImm (v : Word) : EncodedLength.Statement (.subdImm v) :=
  length_of_eval _ rfl

theorem EncodedLength.andaImm (v : Byte) : EncodedLength.Statement (.andaImm v) :=
  length_of_eval _ rfl

theorem EncodedLength.bitaImm (v : Byte) : EncodedLength.Statement (.bitaImm v) :=
  length_of_eval _ rfl

theorem EncodedLength.ldaImm (v : Byte) : EncodedLength.Statement (.ldaImm v) :=
  length_of_eval _ rfl

theorem EncodedLength.eoraImm (v : Byte) : EncodedLength.Statement (.eoraImm v) :=
  length_of_eval _ rfl

theorem EncodedLength.adcaImm (v : Byte) : EncodedLength.Statement (.adcaImm v) :=
  length_of_eval _ rfl

theorem EncodedLength.oraImm (v : Byte) : EncodedLength.Statement (.oraImm v) :=
  length_of_eval _ rfl

theorem EncodedLength.addaImm (v : Byte) : EncodedLength.Statement (.addaImm v) :=
  length_of_eval _ rfl

theorem EncodedLength.cmpxImm (v : Word) : EncodedLength.Statement (.cmpxImm v) :=
  length_of_eval _ rfl

theorem EncodedLength.bsr (off : Byte) : EncodedLength.Statement (.bsr off) :=
  length_of_eval _ rfl

theorem EncodedLength.ldxImm (v : Word) : EncodedLength.Statement (.ldxImm v) :=
  length_of_eval _ rfl

theorem EncodedLength.subaDir (lo : Byte) : EncodedLength.Statement (.subaDir lo) :=
  length_of_eval _ rfl

theorem EncodedLength.cmpaDir (lo : Byte) : EncodedLength.Statement (.cmpaDir lo) :=
  length_of_eval _ rfl

theorem EncodedLength.sbcaDir (lo : Byte) : EncodedLength.Statement (.sbcaDir lo) :=
  length_of_eval _ rfl

theorem EncodedLength.subdDir (lo : Byte) : EncodedLength.Statement (.subdDir lo) :=
  length_of_eval _ rfl

theorem EncodedLength.andaDir (lo : Byte) : EncodedLength.Statement (.andaDir lo) :=
  length_of_eval _ rfl

theorem EncodedLength.bitaDir (lo : Byte) : EncodedLength.Statement (.bitaDir lo) :=
  length_of_eval _ rfl

theorem EncodedLength.ldaDir (lo : Byte) : EncodedLength.Statement (.ldaDir lo) :=
  length_of_eval _ rfl

theorem EncodedLength.staDir (lo : Byte) : EncodedLength.Statement (.staDir lo) :=
  length_of_eval _ rfl

theorem EncodedLength.eoraDir (lo : Byte) : EncodedLength.Statement (.eoraDir lo) :=
  length_of_eval _ rfl

theorem EncodedLength.adcaDir (lo : Byte) : EncodedLength.Statement (.adcaDir lo) :=
  length_of_eval _ rfl

theorem EncodedLength.oraDir (lo : Byte) : EncodedLength.Statement (.oraDir lo) :=
  length_of_eval _ rfl

theorem EncodedLength.addaDir (lo : Byte) : EncodedLength.Statement (.addaDir lo) :=
  length_of_eval _ rfl

theorem EncodedLength.cmpxDir (lo : Byte) : EncodedLength.Statement (.cmpxDir lo) :=
  length_of_eval _ rfl

theorem EncodedLength.jsrDir (lo : Byte) : EncodedLength.Statement (.jsrDir lo) :=
  length_of_eval _ rfl

theorem EncodedLength.ldxDir (lo : Byte) : EncodedLength.Statement (.ldxDir lo) :=
  length_of_eval _ rfl

theorem EncodedLength.stxDir (lo : Byte) : EncodedLength.Statement (.stxDir lo) :=
  length_of_eval _ rfl

theorem EncodedLength.subaIdx (ix : Indexed) : EncodedLength.Statement (.subaIdx ix) :=
  opcode_indexed_length [0xA0] ix rfl

theorem EncodedLength.cmpaIdx (ix : Indexed) : EncodedLength.Statement (.cmpaIdx ix) :=
  opcode_indexed_length [0xA1] ix rfl

theorem EncodedLength.sbcaIdx (ix : Indexed) : EncodedLength.Statement (.sbcaIdx ix) :=
  opcode_indexed_length [0xA2] ix rfl

theorem EncodedLength.subdIdx (ix : Indexed) : EncodedLength.Statement (.subdIdx ix) :=
  opcode_indexed_length [0xA3] ix rfl

theorem EncodedLength.andaIdx (ix : Indexed) : EncodedLength.Statement (.andaIdx ix) :=
  opcode_indexed_length [0xA4] ix rfl

theorem EncodedLength.bitaIdx (ix : Indexed) : EncodedLength.Statement (.bitaIdx ix) :=
  opcode_indexed_length [0xA5] ix rfl

theorem EncodedLength.ldaIdx (ix : Indexed) : EncodedLength.Statement (.ldaIdx ix) :=
  opcode_indexed_length [0xA6] ix rfl

theorem EncodedLength.staIdx (ix : Indexed) : EncodedLength.Statement (.staIdx ix) :=
  opcode_indexed_length [0xA7] ix rfl

theorem EncodedLength.eoraIdx (ix : Indexed) : EncodedLength.Statement (.eoraIdx ix) :=
  opcode_indexed_length [0xA8] ix rfl

theorem EncodedLength.adcaIdx (ix : Indexed) : EncodedLength.Statement (.adcaIdx ix) :=
  opcode_indexed_length [0xA9] ix rfl

theorem EncodedLength.oraIdx (ix : Indexed) : EncodedLength.Statement (.oraIdx ix) :=
  opcode_indexed_length [0xAA] ix rfl

theorem EncodedLength.addaIdx (ix : Indexed) : EncodedLength.Statement (.addaIdx ix) :=
  opcode_indexed_length [0xAB] ix rfl

theorem EncodedLength.cmpxIdx (ix : Indexed) : EncodedLength.Statement (.cmpxIdx ix) :=
  opcode_indexed_length [0xAC] ix rfl

theorem EncodedLength.jsrIdx (ix : Indexed) : EncodedLength.Statement (.jsrIdx ix) :=
  opcode_indexed_length [0xAD] ix rfl

theorem EncodedLength.ldxIdx (ix : Indexed) : EncodedLength.Statement (.ldxIdx ix) :=
  opcode_indexed_length [0xAE] ix rfl

theorem EncodedLength.stxIdx (ix : Indexed) : EncodedLength.Statement (.stxIdx ix) :=
  opcode_indexed_length [0xAF] ix rfl

theorem EncodedLength.subaExt (a : Word) : EncodedLength.Statement (.subaExt a) :=
  length_of_eval _ rfl

theorem EncodedLength.cmpaExt (a : Word) : EncodedLength.Statement (.cmpaExt a) :=
  length_of_eval _ rfl

theorem EncodedLength.sbcaExt (a : Word) : EncodedLength.Statement (.sbcaExt a) :=
  length_of_eval _ rfl

theorem EncodedLength.subdExt (a : Word) : EncodedLength.Statement (.subdExt a) :=
  length_of_eval _ rfl

theorem EncodedLength.andaExt (a : Word) : EncodedLength.Statement (.andaExt a) :=
  length_of_eval _ rfl

theorem EncodedLength.bitaExt (a : Word) : EncodedLength.Statement (.bitaExt a) :=
  length_of_eval _ rfl

theorem EncodedLength.ldaExt (a : Word) : EncodedLength.Statement (.ldaExt a) :=
  length_of_eval _ rfl

theorem EncodedLength.staExt (a : Word) : EncodedLength.Statement (.staExt a) :=
  length_of_eval _ rfl

theorem EncodedLength.eoraExt (a : Word) : EncodedLength.Statement (.eoraExt a) :=
  length_of_eval _ rfl

theorem EncodedLength.adcaExt (a : Word) : EncodedLength.Statement (.adcaExt a) :=
  length_of_eval _ rfl

theorem EncodedLength.oraExt (a : Word) : EncodedLength.Statement (.oraExt a) :=
  length_of_eval _ rfl

theorem EncodedLength.addaExt (a : Word) : EncodedLength.Statement (.addaExt a) :=
  length_of_eval _ rfl

theorem EncodedLength.cmpxExt (a : Word) : EncodedLength.Statement (.cmpxExt a) :=
  length_of_eval _ rfl

theorem EncodedLength.jsrExt (a : Word) : EncodedLength.Statement (.jsrExt a) :=
  length_of_eval _ rfl

theorem EncodedLength.ldxExt (a : Word) : EncodedLength.Statement (.ldxExt a) :=
  length_of_eval _ rfl

theorem EncodedLength.stxExt (a : Word) : EncodedLength.Statement (.stxExt a) :=
  length_of_eval _ rfl

theorem EncodedLength.subbImm (v : Byte) : EncodedLength.Statement (.subbImm v) :=
  length_of_eval _ rfl

theorem EncodedLength.cmpbImm (v : Byte) : EncodedLength.Statement (.cmpbImm v) :=
  length_of_eval _ rfl

theorem EncodedLength.sbcbImm (v : Byte) : EncodedLength.Statement (.sbcbImm v) :=
  length_of_eval _ rfl

theorem EncodedLength.adddImm (v : Word) : EncodedLength.Statement (.adddImm v) :=
  length_of_eval _ rfl

theorem EncodedLength.andbImm (v : Byte) : EncodedLength.Statement (.andbImm v) :=
  length_of_eval _ rfl

theorem EncodedLength.bitbImm (v : Byte) : EncodedLength.Statement (.bitbImm v) :=
  length_of_eval _ rfl

theorem EncodedLength.ldbImm (v : Byte) : EncodedLength.Statement (.ldbImm v) :=
  length_of_eval _ rfl

theorem EncodedLength.eorbImm (v : Byte) : EncodedLength.Statement (.eorbImm v) :=
  length_of_eval _ rfl

theorem EncodedLength.adcbImm (v : Byte) : EncodedLength.Statement (.adcbImm v) :=
  length_of_eval _ rfl

theorem EncodedLength.orbImm (v : Byte) : EncodedLength.Statement (.orbImm v) :=
  length_of_eval _ rfl

theorem EncodedLength.addbImm (v : Byte) : EncodedLength.Statement (.addbImm v) :=
  length_of_eval _ rfl

theorem EncodedLength.lddImm (v : Word) : EncodedLength.Statement (.lddImm v) :=
  length_of_eval _ rfl

theorem EncodedLength.lduImm (v : Word) : EncodedLength.Statement (.lduImm v) :=
  length_of_eval _ rfl

theorem EncodedLength.subbDir (lo : Byte) : EncodedLength.Statement (.subbDir lo) :=
  length_of_eval _ rfl

theorem EncodedLength.cmpbDir (lo : Byte) : EncodedLength.Statement (.cmpbDir lo) :=
  length_of_eval _ rfl

theorem EncodedLength.sbcbDir (lo : Byte) : EncodedLength.Statement (.sbcbDir lo) :=
  length_of_eval _ rfl

theorem EncodedLength.adddDir (lo : Byte) : EncodedLength.Statement (.adddDir lo) :=
  length_of_eval _ rfl

theorem EncodedLength.andbDir (lo : Byte) : EncodedLength.Statement (.andbDir lo) :=
  length_of_eval _ rfl

theorem EncodedLength.bitbDir (lo : Byte) : EncodedLength.Statement (.bitbDir lo) :=
  length_of_eval _ rfl

theorem EncodedLength.ldbDir (lo : Byte) : EncodedLength.Statement (.ldbDir lo) :=
  length_of_eval _ rfl

theorem EncodedLength.stbDir (lo : Byte) : EncodedLength.Statement (.stbDir lo) :=
  length_of_eval _ rfl

theorem EncodedLength.eorbDir (lo : Byte) : EncodedLength.Statement (.eorbDir lo) :=
  length_of_eval _ rfl

theorem EncodedLength.adcbDir (lo : Byte) : EncodedLength.Statement (.adcbDir lo) :=
  length_of_eval _ rfl

theorem EncodedLength.orbDir (lo : Byte) : EncodedLength.Statement (.orbDir lo) :=
  length_of_eval _ rfl

theorem EncodedLength.addbDir (lo : Byte) : EncodedLength.Statement (.addbDir lo) :=
  length_of_eval _ rfl

theorem EncodedLength.lddDir (lo : Byte) : EncodedLength.Statement (.lddDir lo) :=
  length_of_eval _ rfl

theorem EncodedLength.stdDir (lo : Byte) : EncodedLength.Statement (.stdDir lo) :=
  length_of_eval _ rfl

theorem EncodedLength.lduDir (lo : Byte) : EncodedLength.Statement (.lduDir lo) :=
  length_of_eval _ rfl

theorem EncodedLength.stuDir (lo : Byte) : EncodedLength.Statement (.stuDir lo) :=
  length_of_eval _ rfl

theorem EncodedLength.subbIdx (ix : Indexed) : EncodedLength.Statement (.subbIdx ix) :=
  opcode_indexed_length [0xE0] ix rfl

theorem EncodedLength.cmpbIdx (ix : Indexed) : EncodedLength.Statement (.cmpbIdx ix) :=
  opcode_indexed_length [0xE1] ix rfl

theorem EncodedLength.sbcbIdx (ix : Indexed) : EncodedLength.Statement (.sbcbIdx ix) :=
  opcode_indexed_length [0xE2] ix rfl

theorem EncodedLength.adddIdx (ix : Indexed) : EncodedLength.Statement (.adddIdx ix) :=
  opcode_indexed_length [0xE3] ix rfl

theorem EncodedLength.andbIdx (ix : Indexed) : EncodedLength.Statement (.andbIdx ix) :=
  opcode_indexed_length [0xE4] ix rfl

theorem EncodedLength.bitbIdx (ix : Indexed) : EncodedLength.Statement (.bitbIdx ix) :=
  opcode_indexed_length [0xE5] ix rfl

theorem EncodedLength.ldbIdx (ix : Indexed) : EncodedLength.Statement (.ldbIdx ix) :=
  opcode_indexed_length [0xE6] ix rfl

theorem EncodedLength.stbIdx (ix : Indexed) : EncodedLength.Statement (.stbIdx ix) :=
  opcode_indexed_length [0xE7] ix rfl

theorem EncodedLength.eorbIdx (ix : Indexed) : EncodedLength.Statement (.eorbIdx ix) :=
  opcode_indexed_length [0xE8] ix rfl

theorem EncodedLength.adcbIdx (ix : Indexed) : EncodedLength.Statement (.adcbIdx ix) :=
  opcode_indexed_length [0xE9] ix rfl

theorem EncodedLength.orbIdx (ix : Indexed) : EncodedLength.Statement (.orbIdx ix) :=
  opcode_indexed_length [0xEA] ix rfl

theorem EncodedLength.addbIdx (ix : Indexed) : EncodedLength.Statement (.addbIdx ix) :=
  opcode_indexed_length [0xEB] ix rfl

theorem EncodedLength.lddIdx (ix : Indexed) : EncodedLength.Statement (.lddIdx ix) :=
  opcode_indexed_length [0xEC] ix rfl

theorem EncodedLength.stdIdx (ix : Indexed) : EncodedLength.Statement (.stdIdx ix) :=
  opcode_indexed_length [0xED] ix rfl

theorem EncodedLength.lduIdx (ix : Indexed) : EncodedLength.Statement (.lduIdx ix) :=
  opcode_indexed_length [0xEE] ix rfl

theorem EncodedLength.stuIdx (ix : Indexed) : EncodedLength.Statement (.stuIdx ix) :=
  opcode_indexed_length [0xEF] ix rfl

theorem EncodedLength.subbExt (a : Word) : EncodedLength.Statement (.subbExt a) :=
  length_of_eval _ rfl

theorem EncodedLength.cmpbExt (a : Word) : EncodedLength.Statement (.cmpbExt a) :=
  length_of_eval _ rfl

theorem EncodedLength.sbcbExt (a : Word) : EncodedLength.Statement (.sbcbExt a) :=
  length_of_eval _ rfl

theorem EncodedLength.adddExt (a : Word) : EncodedLength.Statement (.adddExt a) :=
  length_of_eval _ rfl

theorem EncodedLength.andbExt (a : Word) : EncodedLength.Statement (.andbExt a) :=
  length_of_eval _ rfl

theorem EncodedLength.bitbExt (a : Word) : EncodedLength.Statement (.bitbExt a) :=
  length_of_eval _ rfl

theorem EncodedLength.ldbExt (a : Word) : EncodedLength.Statement (.ldbExt a) :=
  length_of_eval _ rfl

theorem EncodedLength.stbExt (a : Word) : EncodedLength.Statement (.stbExt a) :=
  length_of_eval _ rfl

theorem EncodedLength.eorbExt (a : Word) : EncodedLength.Statement (.eorbExt a) :=
  length_of_eval _ rfl

theorem EncodedLength.adcbExt (a : Word) : EncodedLength.Statement (.adcbExt a) :=
  length_of_eval _ rfl

theorem EncodedLength.orbExt (a : Word) : EncodedLength.Statement (.orbExt a) :=
  length_of_eval _ rfl

theorem EncodedLength.addbExt (a : Word) : EncodedLength.Statement (.addbExt a) :=
  length_of_eval _ rfl

theorem EncodedLength.lddExt (a : Word) : EncodedLength.Statement (.lddExt a) :=
  length_of_eval _ rfl

theorem EncodedLength.stdExt (a : Word) : EncodedLength.Statement (.stdExt a) :=
  length_of_eval _ rfl

theorem EncodedLength.lduExt (a : Word) : EncodedLength.Statement (.lduExt a) :=
  length_of_eval _ rfl

theorem EncodedLength.stuExt (a : Word) : EncodedLength.Statement (.stuExt a) :=
  length_of_eval _ rfl

theorem EncodedLength.lbrn (off : Word) : EncodedLength.Statement (.lbrn off) :=
  length_of_eval _ rfl

theorem EncodedLength.lbhi (off : Word) : EncodedLength.Statement (.lbhi off) :=
  length_of_eval _ rfl

theorem EncodedLength.lbls (off : Word) : EncodedLength.Statement (.lbls off) :=
  length_of_eval _ rfl

theorem EncodedLength.lbhs (off : Word) : EncodedLength.Statement (.lbhs off) :=
  length_of_eval _ rfl

theorem EncodedLength.lblo (off : Word) : EncodedLength.Statement (.lblo off) :=
  length_of_eval _ rfl

theorem EncodedLength.lbne (off : Word) : EncodedLength.Statement (.lbne off) :=
  length_of_eval _ rfl

theorem EncodedLength.lbeq (off : Word) : EncodedLength.Statement (.lbeq off) :=
  length_of_eval _ rfl

theorem EncodedLength.lbvc (off : Word) : EncodedLength.Statement (.lbvc off) :=
  length_of_eval _ rfl

theorem EncodedLength.lbvs (off : Word) : EncodedLength.Statement (.lbvs off) :=
  length_of_eval _ rfl

theorem EncodedLength.lbpl (off : Word) : EncodedLength.Statement (.lbpl off) :=
  length_of_eval _ rfl

theorem EncodedLength.lbmi (off : Word) : EncodedLength.Statement (.lbmi off) :=
  length_of_eval _ rfl

theorem EncodedLength.lbge (off : Word) : EncodedLength.Statement (.lbge off) :=
  length_of_eval _ rfl

theorem EncodedLength.lblt (off : Word) : EncodedLength.Statement (.lblt off) :=
  length_of_eval _ rfl

theorem EncodedLength.lbgt (off : Word) : EncodedLength.Statement (.lbgt off) :=
  length_of_eval _ rfl

theorem EncodedLength.lble (off : Word) : EncodedLength.Statement (.lble off) :=
  length_of_eval _ rfl

theorem EncodedLength.swi2 : EncodedLength.Statement .swi2 :=
  length_of_eval _ rfl

theorem EncodedLength.cmpdImm (v : Word) : EncodedLength.Statement (.cmpdImm v) :=
  length_of_eval _ rfl

theorem EncodedLength.cmpyImm (v : Word) : EncodedLength.Statement (.cmpyImm v) :=
  length_of_eval _ rfl

theorem EncodedLength.ldyImm (v : Word) : EncodedLength.Statement (.ldyImm v) :=
  length_of_eval _ rfl

theorem EncodedLength.cmpdDir (lo : Byte) : EncodedLength.Statement (.cmpdDir lo) :=
  length_of_eval _ rfl

theorem EncodedLength.cmpyDir (lo : Byte) : EncodedLength.Statement (.cmpyDir lo) :=
  length_of_eval _ rfl

theorem EncodedLength.ldyDir (lo : Byte) : EncodedLength.Statement (.ldyDir lo) :=
  length_of_eval _ rfl

theorem EncodedLength.styDir (lo : Byte) : EncodedLength.Statement (.styDir lo) :=
  length_of_eval _ rfl

theorem EncodedLength.cmpdIdx (ix : Indexed) : EncodedLength.Statement (.cmpdIdx ix) :=
  opcode_indexed_length [0x10, 0xA3] ix rfl

theorem EncodedLength.cmpyIdx (ix : Indexed) : EncodedLength.Statement (.cmpyIdx ix) :=
  opcode_indexed_length [0x10, 0xAC] ix rfl

theorem EncodedLength.ldyIdx (ix : Indexed) : EncodedLength.Statement (.ldyIdx ix) :=
  opcode_indexed_length [0x10, 0xAE] ix rfl

theorem EncodedLength.styIdx (ix : Indexed) : EncodedLength.Statement (.styIdx ix) :=
  opcode_indexed_length [0x10, 0xAF] ix rfl

theorem EncodedLength.cmpdExt (a : Word) : EncodedLength.Statement (.cmpdExt a) :=
  length_of_eval _ rfl

theorem EncodedLength.cmpyExt (a : Word) : EncodedLength.Statement (.cmpyExt a) :=
  length_of_eval _ rfl

theorem EncodedLength.ldyExt (a : Word) : EncodedLength.Statement (.ldyExt a) :=
  length_of_eval _ rfl

theorem EncodedLength.styExt (a : Word) : EncodedLength.Statement (.styExt a) :=
  length_of_eval _ rfl

theorem EncodedLength.ldsImm (v : Word) : EncodedLength.Statement (.ldsImm v) :=
  length_of_eval _ rfl

theorem EncodedLength.ldsDir (lo : Byte) : EncodedLength.Statement (.ldsDir lo) :=
  length_of_eval _ rfl

theorem EncodedLength.stsDir (lo : Byte) : EncodedLength.Statement (.stsDir lo) :=
  length_of_eval _ rfl

theorem EncodedLength.ldsIdx (ix : Indexed) : EncodedLength.Statement (.ldsIdx ix) :=
  opcode_indexed_length [0x10, 0xEE] ix rfl

theorem EncodedLength.stsIdx (ix : Indexed) : EncodedLength.Statement (.stsIdx ix) :=
  opcode_indexed_length [0x10, 0xEF] ix rfl

theorem EncodedLength.ldsExt (a : Word) : EncodedLength.Statement (.ldsExt a) :=
  length_of_eval _ rfl

theorem EncodedLength.stsExt (a : Word) : EncodedLength.Statement (.stsExt a) :=
  length_of_eval _ rfl

theorem EncodedLength.swi3 : EncodedLength.Statement .swi3 :=
  length_of_eval _ rfl

theorem EncodedLength.cmpuImm (v : Word) : EncodedLength.Statement (.cmpuImm v) :=
  length_of_eval _ rfl

theorem EncodedLength.cmpsImm (v : Word) : EncodedLength.Statement (.cmpsImm v) :=
  length_of_eval _ rfl

theorem EncodedLength.cmpuDir (lo : Byte) : EncodedLength.Statement (.cmpuDir lo) :=
  length_of_eval _ rfl

theorem EncodedLength.cmpsDir (lo : Byte) : EncodedLength.Statement (.cmpsDir lo) :=
  length_of_eval _ rfl

theorem EncodedLength.cmpuIdx (ix : Indexed) : EncodedLength.Statement (.cmpuIdx ix) :=
  opcode_indexed_length [0x11, 0xA3] ix rfl

theorem EncodedLength.cmpsIdx (ix : Indexed) : EncodedLength.Statement (.cmpsIdx ix) :=
  opcode_indexed_length [0x11, 0xAC] ix rfl

theorem EncodedLength.cmpuExt (a : Word) : EncodedLength.Statement (.cmpuExt a) :=
  length_of_eval _ rfl

theorem EncodedLength.cmpsExt (a : Word) : EncodedLength.Statement (.cmpsExt a) :=
  length_of_eval _ rfl

end Sys2Proof.Laws
end

