-- ==== Sys2Proof/Laws/Reset.lean ====
section
/-! SUPPORT. The power-on state as an instance of the init phase, and what a reset can do. -/

namespace Sys2Proof.Machine

/-- `State.reset` is the init phase of spec/70_reset_and_hazards.md R680 with empty images, no cartridge, no trap cell, no disk
image, the default latch and the clock at 0. -/
theorem powerOn_empty : powerOn ⟨[], [], [], none, [], 0, ⟨.none, 1, 0, []⟩, .dragonDos, 0, 0⟩ = State.reset := by rfl

/-- What a reset can do to memory and tags: nothing. -/
theorem State.executiveReset_kept (k : ResetKind) (s : State) :
    (s.executiveReset k).mem = s.mem ∧ (s.executiveReset k).tags = s.tags ∧
      (s.executiveReset k).dev.image = (s.resetCore k |>.readWord 0xFFFE).2.dev.image := by
  cases k <;> simp [State.executiveReset, State.resetCore, State.resetRegs]

/-- What loading a cartridge can do: change memory. -/
theorem State.loadCartridge_eq (bs : List Byte) (s : State) :
    s.loadCartridge bs = { s with mem := (s.loadCartridge bs).mem } := by
  unfold State.loadCartridge
  rw [State.load_eq, State.load_eq 0xC000]

/-- What loading a BASIC image can do: change memory. -/
theorem State.loadBasic_eq (bs : List Byte) (s : State) : s.loadBasic bs = { s with mem := (s.loadBasic bs).mem } :=
  State.load_eq ..

/-- What loading an image to the DOS window can do: change memory. -/
theorem State.loadDos_eq (off : Nat) (bs : List Byte) (s : State) :
    s.loadDos off bs = { s with mem := (s.loadDos off bs).mem } :=
  State.load_eq ..

/-- An image for the DOS window that would begin beyond 0xFEFF is discarded whole. -/
theorem State.loadDos_beyond {off : Nat} (bs : List Byte) (s : State) (h : 0x7F00 ≤ off) : s.loadDos off bs = s := by
  simp [State.loadDos, State.load, Nat.sub_eq_zero_of_le h]

end Sys2Proof.Machine
end

