-- ==== Sys2Proof/Machine/Debug.lean ====
section
/-! DEFINITION. The debug interface (spec/60_exceptions.md R461, R462). It is no part of the machine's transition: it
reads the cells without their handlers and changes nothing. -/

namespace Sys2Proof.Machine

/-- The mnemonic of an instruction; of two names for one encoding (spec/30_encoding.md R153) the first. -/
def mnemonic (i : Instr) : String :=
  match i with
  | .negDir _ => "NEG"
  | .comDir _ => "COM"
  | .lsrDir _ => "LSR"
  | .rorDir _ => "ROR"
  | .asrDir _ => "ASR"
  | .lslDir _ => "LSL"
  | .rolDir _ => "ROL"
  | .decDir _ => "DEC"
  | .incDir _ => "INC"
  | .tstDir _ => "TST"
  | .jmpDir _ => "JMP"
  | .clrDir _ => "CLR"
  | .nop => "NOP"
  | .sync => "SYNC"
  | .lbra _ => "LBRA"
  | .lbsr _ => "LBSR"
  | .daa => "DAA"
  | .orcc _ => "ORCC"
  | .andcc _ => "ANDCC"
  | .sex => "SEX"
  | .exg _ _ => "EXG"
  | .tfr _ _ => "TFR"
  | .bra _ => "BRA"
  | .brn _ => "BRN"
  | .bhi _ => "BHI"
  | .bls _ => "BLS"
  | .bhs _ => "BHS"
  | .blo _ => "BLO"
  | .bne _ => "BNE"
  | .beq _ => "BEQ"
  | .bvc _ => "BVC"
  | .bvs _ => "BVS"
  | .bpl _ => "BPL"
  | .bmi _ => "BMI"
  | .bge _ => "BGE"
  | .blt _ => "BLT"
  | .bgt _ => "BGT"
  | .ble _ => "BLE"
  | .leax _ => "LEAX"
  | .leay _ => "LEAY"
  | .leas _ => "LEAS"
  | .leau _ => "LEAU"
  | .pshs _ => "PSHS"
  | .puls _ => "PULS"
  | .pshu _ => "PSHU"
  | .pulu _ => "PULU"
  | .rts => "RTS"
  | .abx => "ABX"
  | .rti => "RTI"
  | .cwai _ => "CWAI"
  | .mul => "MUL"
  | .swi => "SWI"
  | .nega => "NEGA"
  | .coma => "COMA"
  | .lsra => "LSRA"
  | .rora => "RORA"
  | .asra => "ASRA"
  | .lsla => "LSLA"
  | .rola => "ROLA"
  | .deca => "DECA"
  | .inca => "INCA"
  | .tsta => "TSTA"
  | .clra => "CLRA"
  | .negb => "NEGB"
  | .comb => "COMB"
  | .lsrb => "LSRB"
  | .rorb => "RORB"
  | .asrb => "ASRB"
  | .lslb => "LSLB"
  | .rolb => "ROLB"
  | .decb => "DECB"
  | .incb => "INCB"
  | .tstb => "TSTB"
  | .clrb => "CLRB"
  | .negIdx _ => "NEG"
  | .comIdx _ => "COM"
  | .lsrIdx _ => "LSR"
  | .rorIdx _ => "ROR"
  | .asrIdx _ => "ASR"
  | .lslIdx _ => "LSL"
  | .rolIdx _ => "ROL"
  | .decIdx _ => "DEC"
  | .incIdx _ => "INC"
  | .tstIdx _ => "TST"
  | .jmpIdx _ => "JMP"
  | .clrIdx _ => "CLR"
  | .negExt _ => "NEG"
  | .comExt _ => "COM"
  | .lsrExt _ => "LSR"
  | .rorExt _ => "ROR"
  | .asrExt _ => "ASR"
  | .lslExt _ => "LSL"
  | .rolExt _ => "ROL"
  | .decExt _ => "DEC"
  | .incExt _ => "INC"
  | .tstExt _ => "TST"
  | .jmpExt _ => "JMP"
  | .clrExt _ => "CLR"
  | .subaImm _ => "SUBA"
  | .cmpaImm _ => "CMPA"
  | .sbcaImm _ => "SBCA"
  | .subdImm _ => "SUBD"
  | .andaImm _ => "ANDA"
  | .bitaImm _ => "BITA"
  | .ldaImm _ => "LDA"
  | .eoraImm _ => "EORA"
  | .adcaImm _ => "ADCA"
  | .oraImm _ => "ORA"
  | .addaImm _ => "ADDA"
  | .cmpxImm _ => "CMPX"
  | .bsr _ => "BSR"
  | .ldxImm _ => "LDX"
  | .subaDir _ => "SUBA"
  | .cmpaDir _ => "CMPA"
  | .sbcaDir _ => "SBCA"
  | .subdDir _ => "SUBD"
  | .andaDir _ => "ANDA"
  | .bitaDir _ => "BITA"
  | .ldaDir _ => "LDA"
  | .staDir _ => "STA"
  | .eoraDir _ => "EORA"
  | .adcaDir _ => "ADCA"
  | .oraDir _ => "ORA"
  | .addaDir _ => "ADDA"
  | .cmpxDir _ => "CMPX"
  | .jsrDir _ => "JSR"
  | .ldxDir _ => "LDX"
  | .stxDir _ => "STX"
  | .subaIdx _ => "SUBA"
  | .cmpaIdx _ => "CMPA"
  | .sbcaIdx _ => "SBCA"
  | .subdIdx _ => "SUBD"
  | .andaIdx _ => "ANDA"
  | .bitaIdx _ => "BITA"
  | .ldaIdx _ => "LDA"
  | .staIdx _ => "STA"
  | .eoraIdx _ => "EORA"
  | .adcaIdx _ => "ADCA"
  | .oraIdx _ => "ORA"
  | .addaIdx _ => "ADDA"
  | .cmpxIdx _ => "CMPX"
  | .jsrIdx _ => "JSR"
  | .ldxIdx _ => "LDX"
  | .stxIdx _ => "STX"
  | .subaExt _ => "SUBA"
  | .cmpaExt _ => "CMPA"
  | .sbcaExt _ => "SBCA"
  | .subdExt _ => "SUBD"
  | .andaExt _ => "ANDA"
  | .bitaExt _ => "BITA"
  | .ldaExt _ => "LDA"
  | .staExt _ => "STA"
  | .eoraExt _ => "EORA"
  | .adcaExt _ => "ADCA"
  | .oraExt _ => "ORA"
  | .addaExt _ => "ADDA"
  | .cmpxExt _ => "CMPX"
  | .jsrExt _ => "JSR"
  | .ldxExt _ => "LDX"
  | .stxExt _ => "STX"
  | .subbImm _ => "SUBB"
  | .cmpbImm _ => "CMPB"
  | .sbcbImm _ => "SBCB"
  | .adddImm _ => "ADDD"
  | .andbImm _ => "ANDB"
  | .bitbImm _ => "BITB"
  | .ldbImm _ => "LDB"
  | .eorbImm _ => "EORB"
  | .adcbImm _ => "ADCB"
  | .orbImm _ => "ORB"
  | .addbImm _ => "ADDB"
  | .lddImm _ => "LDD"
  | .lduImm _ => "LDU"
  | .subbDir _ => "SUBB"
  | .cmpbDir _ => "CMPB"
  | .sbcbDir _ => "SBCB"
  | .adddDir _ => "ADDD"
  | .andbDir _ => "ANDB"
  | .bitbDir _ => "BITB"
  | .ldbDir _ => "LDB"
  | .stbDir _ => "STB"
  | .eorbDir _ => "EORB"
  | .adcbDir _ => "ADCB"
  | .orbDir _ => "ORB"
  | .addbDir _ => "ADDB"
  | .lddDir _ => "LDD"
  | .stdDir _ => "STD"
  | .lduDir _ => "LDU"
  | .stuDir _ => "STU"
  | .subbIdx _ => "SUBB"
  | .cmpbIdx _ => "CMPB"
  | .sbcbIdx _ => "SBCB"
  | .adddIdx _ => "ADDD"
  | .andbIdx _ => "ANDB"
  | .bitbIdx _ => "BITB"
  | .ldbIdx _ => "LDB"
  | .stbIdx _ => "STB"
  | .eorbIdx _ => "EORB"
  | .adcbIdx _ => "ADCB"
  | .orbIdx _ => "ORB"
  | .addbIdx _ => "ADDB"
  | .lddIdx _ => "LDD"
  | .stdIdx _ => "STD"
  | .lduIdx _ => "LDU"
  | .stuIdx _ => "STU"
  | .subbExt _ => "SUBB"
  | .cmpbExt _ => "CMPB"
  | .sbcbExt _ => "SBCB"
  | .adddExt _ => "ADDD"
  | .andbExt _ => "ANDB"
  | .bitbExt _ => "BITB"
  | .ldbExt _ => "LDB"
  | .stbExt _ => "STB"
  | .eorbExt _ => "EORB"
  | .adcbExt _ => "ADCB"
  | .orbExt _ => "ORB"
  | .addbExt _ => "ADDB"
  | .lddExt _ => "LDD"
  | .stdExt _ => "STD"
  | .lduExt _ => "LDU"
  | .stuExt _ => "STU"
  | .lbrn _ => "LBRN"
  | .lbhi _ => "LBHI"
  | .lbls _ => "LBLS"
  | .lbhs _ => "LBHS"
  | .lblo _ => "LBLO"
  | .lbne _ => "LBNE"
  | .lbeq _ => "LBEQ"
  | .lbvc _ => "LBVC"
  | .lbvs _ => "LBVS"
  | .lbpl _ => "LBPL"
  | .lbmi _ => "LBMI"
  | .lbge _ => "LBGE"
  | .lblt _ => "LBLT"
  | .lbgt _ => "LBGT"
  | .lble _ => "LBLE"
  | .swi2 => "SWI2"
  | .cmpdImm _ => "CMPD"
  | .cmpyImm _ => "CMPY"
  | .ldyImm _ => "LDY"
  | .cmpdDir _ => "CMPD"
  | .cmpyDir _ => "CMPY"
  | .ldyDir _ => "LDY"
  | .styDir _ => "STY"
  | .cmpdIdx _ => "CMPD"
  | .cmpyIdx _ => "CMPY"
  | .ldyIdx _ => "LDY"
  | .styIdx _ => "STY"
  | .cmpdExt _ => "CMPD"
  | .cmpyExt _ => "CMPY"
  | .ldyExt _ => "LDY"
  | .styExt _ => "STY"
  | .ldsImm _ => "LDS"
  | .ldsDir _ => "LDS"
  | .stsDir _ => "STS"
  | .ldsIdx _ => "LDS"
  | .stsIdx _ => "STS"
  | .ldsExt _ => "LDS"
  | .stsExt _ => "STS"
  | .swi3 => "SWI3"
  | .cmpuImm _ => "CMPU"
  | .cmpsImm _ => "CMPS"
  | .cmpuDir _ => "CMPU"
  | .cmpsDir _ => "CMPS"
  | .cmpuIdx _ => "CMPU"
  | .cmpsIdx _ => "CMPS"
  | .cmpuExt _ => "CMPU"
  | .cmpsExt _ => "CMPS"

/-- The `n` bytes from `a` on, read without handlers. -/
def State.peekList (s : State) (a : Word) (n : Nat) : List Byte :=
  match n with
  | 0 => []
  | n + 1 => s.peek a :: State.peekList s (a + 1#16) n

/-- `mnemonic_at(pc)` (R461): none where the bytes are illegal. -/
def State.mnemonicAt (s : State) (pc : Word) : Option String :=
  match decode (s.peekList pc maxLength) with
  | .ok (i, _) => some (mnemonic i)
  | .error _ => none

/-- What `get_state()` returns (R462). -/
structure Snapshot where
  regs : Regs
  cpuState : CpuState
  lastPc : Word
  lastOpcodeBytes : List Byte
deriving DecidableEq, Repr

/-- `get_state()` (R462). -/
def State.getState (s : State) : Snapshot := ⟨s.regs, s.cpuState, s.lastPc, s.lastOpcodeBytes⟩

end Sys2Proof.Machine
end

