-- ==== Sys2Proof/Tests/Slice0.lean ====
section
/-! SUPPORT. The tests: ill-formed terms that the checks refuse, words of every constructor, the worked examples of
spec/95_test_vectors.md, and for every statement with hypotheses a state and operands that meet them. -/

namespace Sys2Proof.Tests

open Sys2Proof.Machine Sys2Proof.Reference

/-! ### Ill-formed terms (spec/30_encoding.md R131, R135, R141) -/

theorem test_wf_refuses_indirect_off5 : (Instr.leax ⟨.off5 .x 0x01, true⟩).wf = false := by decide

theorem test_wf_refuses_indirect_inc1 : (Instr.ldaIdx ⟨.inc1 .x, true⟩).wf = false := by decide

theorem test_wf_refuses_indirect_dec1 : (Instr.ldaIdx ⟨.dec1 .x, true⟩).wf = false := by decide

theorem test_wf_refuses_direct_ext : (Instr.jmpIdx ⟨.ext .x 0x2000, false⟩).wf = false := by decide

theorem test_wf_refuses_tfr_sizes : (Instr.tfr .a .x).wf = false := by decide

theorem test_wf_refuses_exg_sizes : (Instr.exg .d .b).wf = false := by decide

/-! ### Words (R131, R140, R142, R146 to R148): every constructor, every row of R131 -/

/-- The bytes decode to the instruction with nothing left, it encodes to them, and it is well-formed. -/
def wordOk (p : List Byte × Instr) : Bool :=
  (match decode p.1 with
   | .ok (i, []) => decide (i = p.2)
   | _ => false) && decide (encode p.2 = p.1) && p.2.wf

/-- Row 0x of R146. -/
def words_page1_0x : List (List Byte × Instr) :=
  [([0x00, 0x34], .negDir 0x34), ([0x03, 0x34], .comDir 0x34), ([0x04, 0x34], .lsrDir 0x34),
   ([0x06, 0x34], .rorDir 0x34), ([0x07, 0x34], .asrDir 0x34), ([0x08, 0x34], .lslDir 0x34),
   ([0x09, 0x34], .rolDir 0x34), ([0x0A, 0x34], .decDir 0x34), ([0x0C, 0x34], .incDir 0x34),
   ([0x0D, 0x34], .tstDir 0x34), ([0x0E, 0x34], .jmpDir 0x34), ([0x0F, 0x34], .clrDir 0x34)]

theorem test_words_page1_0x : words_page1_0x.all wordOk = true := by decide

/-- Row 1x of R146. -/
def words_page1_1x : List (List Byte × Instr) :=
  [([0x12], .nop), ([0x13], .sync), ([0x16, 0xFF, 0x10], .lbra 0xFF10),
   ([0x17, 0xFF, 0x10], .lbsr 0xFF10), ([0x19], .daa), ([0x1A, 0x12], .orcc 0x12),
   ([0x1C, 0x12], .andcc 0x12), ([0x1D], .sex), ([0x1E, 0x89], .exg .a .b),
   ([0x1F, 0x12], .tfr .x .y)]

theorem test_words_page1_1x : words_page1_1x.all wordOk = true := by decide

/-- Row 2x of R146. -/
def words_page1_2x : List (List Byte × Instr) :=
  [([0x20, 0xF0], .bra 0xF0), ([0x21, 0xF0], .brn 0xF0), ([0x22, 0xF0], .bhi 0xF0),
   ([0x23, 0xF0], .bls 0xF0), ([0x24, 0xF0], .bhs 0xF0), ([0x25, 0xF0], .blo 0xF0),
   ([0x26, 0xF0], .bne 0xF0), ([0x27, 0xF0], .beq 0xF0), ([0x28, 0xF0], .bvc 0xF0),
   ([0x29, 0xF0], .bvs 0xF0), ([0x2A, 0xF0], .bpl 0xF0), ([0x2B, 0xF0], .bmi 0xF0),
   ([0x2C, 0xF0], .bge 0xF0), ([0x2D, 0xF0], .blt 0xF0), ([0x2E, 0xF0], .bgt 0xF0),
   ([0x2F, 0xF0], .ble 0xF0)]

theorem test_words_page1_2x : words_page1_2x.all wordOk = true := by decide

/-- Row 3x of R146. -/
def words_page1_3x : List (List Byte × Instr) :=
  [([0x30, 0x05], .leax ⟨.off5 .x 0x05, false⟩), ([0x31, 0x3F], .leay ⟨.off5 .y 0x1F, false⟩), ([0x32, 0x80], .leas ⟨.inc1 .x, false⟩),
   ([0x33, 0xA1], .leau ⟨.inc2 .y, false⟩), ([0x34, 0x5A], .pshs 0x5A), ([0x35, 0x5A], .puls 0x5A),
   ([0x36, 0x5A], .pshu 0x5A), ([0x37, 0x5A], .pulu 0x5A), ([0x39], .rts),
   ([0x3A], .abx), ([0x3B], .rti), ([0x3C, 0x12], .cwai 0x12),
   ([0x3D], .mul), ([0x3F], .swi)]

theorem test_words_page1_3x : words_page1_3x.all wordOk = true := by decide

/-- Row 4x of R146. -/
def words_page1_4x : List (List Byte × Instr) :=
  [([0x40], .nega), ([0x43], .coma), ([0x44], .lsra),
   ([0x46], .rora), ([0x47], .asra), ([0x48], .lsla),
   ([0x49], .rola), ([0x4A], .deca), ([0x4C], .inca),
   ([0x4D], .tsta), ([0x4F], .clra)]

theorem test_words_page1_4x : words_page1_4x.all wordOk = true := by decide

/-- Row 5x of R146. -/
def words_page1_5x : List (List Byte × Instr) :=
  [([0x50], .negb), ([0x53], .comb), ([0x54], .lsrb),
   ([0x56], .rorb), ([0x57], .asrb), ([0x58], .lslb),
   ([0x59], .rolb), ([0x5A], .decb), ([0x5C], .incb),
   ([0x5D], .tstb), ([0x5F], .clrb)]

theorem test_words_page1_5x : words_page1_5x.all wordOk = true := by decide

/-- Row 6x of R146. -/
def words_page1_6x : List (List Byte × Instr) :=
  [([0x60, 0xC2], .negIdx ⟨.dec1 .u, false⟩), ([0x63, 0xE3], .comIdx ⟨.dec2 .s, false⟩), ([0x64, 0x84], .lsrIdx ⟨.zero .x, false⟩),
   ([0x66, 0xA5], .rorIdx ⟨.accB .y, false⟩), ([0x67, 0xC6], .asrIdx ⟨.accA .u, false⟩), ([0x68, 0xE8, 0x80], .lslIdx ⟨.off8 .s 0x80, false⟩),
   ([0x69, 0x89, 0x12, 0x34], .rolIdx ⟨.off16 .x 0x1234, false⟩), ([0x6A, 0xAB], .decIdx ⟨.accD .y, false⟩), ([0x6C, 0xCC, 0x10], .incIdx ⟨.pcr8 .u 0x10, false⟩),
   ([0x6D, 0x8D, 0x10, 0x00], .tstIdx ⟨.pcr16 .x 0x1000, false⟩), ([0x6E, 0x9F, 0x20, 0x01], .jmpIdx ⟨.ext .x 0x2001, true⟩), ([0x6F, 0xB1], .clrIdx ⟨.inc2 .y, true⟩)]

theorem test_words_page1_6x : words_page1_6x.all wordOk = true := by decide

/-- Row 7x of R146. -/
def words_page1_7x : List (List Byte × Instr) :=
  [([0x70, 0x56, 0x78], .negExt 0x5678), ([0x73, 0x56, 0x78], .comExt 0x5678), ([0x74, 0x56, 0x78], .lsrExt 0x5678),
   ([0x76, 0x56, 0x78], .rorExt 0x5678), ([0x77, 0x56, 0x78], .asrExt 0x5678), ([0x78, 0x56, 0x78], .lslExt 0x5678),
   ([0x79, 0x56, 0x78], .rolExt 0x5678), ([0x7A, 0x56, 0x78], .decExt 0x5678), ([0x7C, 0x56, 0x78], .incExt 0x5678),
   ([0x7D, 0x56, 0x78], .tstExt 0x5678), ([0x7E, 0x56, 0x78], .jmpExt 0x5678), ([0x7F, 0x56, 0x78], .clrExt 0x5678)]

theorem test_words_page1_7x : words_page1_7x.all wordOk = true := by decide

/-- Row 8x of R146. -/
def words_page1_8x : List (List Byte × Instr) :=
  [([0x80, 0x12], .subaImm 0x12), ([0x81, 0x12], .cmpaImm 0x12), ([0x82, 0x12], .sbcaImm 0x12),
   ([0x83, 0x12, 0x34], .subdImm 0x1234), ([0x84, 0x12], .andaImm 0x12), ([0x85, 0x12], .bitaImm 0x12),
   ([0x86, 0x12], .ldaImm 0x12), ([0x88, 0x12], .eoraImm 0x12), ([0x89, 0x12], .adcaImm 0x12),
   ([0x8A, 0x12], .oraImm 0x12), ([0x8B, 0x12], .addaImm 0x12), ([0x8C, 0x12, 0x34], .cmpxImm 0x1234),
   ([0x8D, 0xF0], .bsr 0xF0), ([0x8E, 0x12, 0x34], .ldxImm 0x1234)]

theorem test_words_page1_8x : words_page1_8x.all wordOk = true := by decide

/-- Row 9x of R146. -/
def words_page1_9x : List (List Byte × Instr) :=
  [([0x90, 0x34], .subaDir 0x34), ([0x91, 0x34], .cmpaDir 0x34), ([0x92, 0x34], .sbcaDir 0x34),
   ([0x93, 0x34], .subdDir 0x34), ([0x94, 0x34], .andaDir 0x34), ([0x95, 0x34], .bitaDir 0x34),
   ([0x96, 0x34], .ldaDir 0x34), ([0x97, 0x34], .staDir 0x34), ([0x98, 0x34], .eoraDir 0x34),
   ([0x99, 0x34], .adcaDir 0x34), ([0x9A, 0x34], .oraDir 0x34), ([0x9B, 0x34], .addaDir 0x34),
   ([0x9C, 0x34], .cmpxDir 0x34), ([0x9D, 0x34], .jsrDir 0x34), ([0x9E, 0x34], .ldxDir 0x34),
   ([0x9F, 0x34], .stxDir 0x34)]

theorem test_words_page1_9x : words_page1_9x.all wordOk = true := by decide

/-- Row Ax of R146. -/
def words_page1_Ax : List (List Byte × Instr) :=
  [([0xA0, 0xD4], .subaIdx ⟨.zero .u, true⟩), ([0xA1, 0xF8, 0xFE], .cmpaIdx ⟨.off8 .s 0xFE, true⟩), ([0xA2, 0x99, 0x12, 0x34], .sbcaIdx ⟨.off16 .x 0x1234, true⟩),
   ([0xA3, 0x9B], .subdIdx ⟨.accD .x, true⟩), ([0xA4, 0x9C, 0x01], .andaIdx ⟨.pcr8 .x 0x01, true⟩), ([0xA5, 0xBD, 0x00, 0x02], .bitaIdx ⟨.pcr16 .y 0x0002, true⟩),
   ([0xA6, 0x93], .ldaIdx ⟨.dec2 .x, true⟩), ([0xA7, 0x95], .staIdx ⟨.accB .x, true⟩), ([0xA8, 0x96], .eoraIdx ⟨.accA .x, true⟩),
   ([0xA9, 0xFF, 0x80, 0x00], .adcaIdx ⟨.ext .s 0x8000, true⟩), ([0xAA, 0x05], .oraIdx ⟨.off5 .x 0x05, false⟩), ([0xAB, 0x3F], .addaIdx ⟨.off5 .y 0x1F, false⟩),
   ([0xAC, 0x80], .cmpxIdx ⟨.inc1 .x, false⟩), ([0xAD, 0xA1], .jsrIdx ⟨.inc2 .y, false⟩), ([0xAE, 0xC2], .ldxIdx ⟨.dec1 .u, false⟩),
   ([0xAF, 0xE3], .stxIdx ⟨.dec2 .s, false⟩)]

theorem test_words_page1_Ax : words_page1_Ax.all wordOk = true := by decide

/-- Row Bx of R146. -/
def words_page1_Bx : List (List Byte × Instr) :=
  [([0xB0, 0x56, 0x78], .subaExt 0x5678), ([0xB1, 0x56, 0x78], .cmpaExt 0x5678), ([0xB2, 0x56, 0x78], .sbcaExt 0x5678),
   ([0xB3, 0x56, 0x78], .subdExt 0x5678), ([0xB4, 0x56, 0x78], .andaExt 0x5678), ([0xB5, 0x56, 0x78], .bitaExt 0x5678),
   ([0xB6, 0x56, 0x78], .ldaExt 0x5678), ([0xB7, 0x56, 0x78], .staExt 0x5678), ([0xB8, 0x56, 0x78], .eoraExt 0x5678),
   ([0xB9, 0x56, 0x78], .adcaExt 0x5678), ([0xBA, 0x56, 0x78], .oraExt 0x5678), ([0xBB, 0x56, 0x78], .addaExt 0x5678),
   ([0xBC, 0x56, 0x78], .cmpxExt 0x5678), ([0xBD, 0x56, 0x78], .jsrExt 0x5678), ([0xBE, 0x56, 0x78], .ldxExt 0x5678),
   ([0xBF, 0x56, 0x78], .stxExt 0x5678)]

theorem test_words_page1_Bx : words_page1_Bx.all wordOk = true := by decide

/-- Row Cx of R146. -/
def words_page1_Cx : List (List Byte × Instr) :=
  [([0xC0, 0x12], .subbImm 0x12), ([0xC1, 0x12], .cmpbImm 0x12), ([0xC2, 0x12], .sbcbImm 0x12),
   ([0xC3, 0x12, 0x34], .adddImm 0x1234), ([0xC4, 0x12], .andbImm 0x12), ([0xC5, 0x12], .bitbImm 0x12),
   ([0xC6, 0x12], .ldbImm 0x12), ([0xC8, 0x12], .eorbImm 0x12), ([0xC9, 0x12], .adcbImm 0x12),
   ([0xCA, 0x12], .orbImm 0x12), ([0xCB, 0x12], .addbImm 0x12), ([0xCC, 0x12, 0x34], .lddImm 0x1234),
   ([0xCE, 0x12, 0x34], .lduImm 0x1234)]

theorem test_words_page1_Cx : words_page1_Cx.all wordOk = true := by decide

/-- Row Dx of R146. -/
def words_page1_Dx : List (List Byte × Instr) :=
  [([0xD0, 0x34], .subbDir 0x34), ([0xD1, 0x34], .cmpbDir 0x34), ([0xD2, 0x34], .sbcbDir 0x34),
   ([0xD3, 0x34], .adddDir 0x34), ([0xD4, 0x34], .andbDir 0x34), ([0xD5, 0x34], .bitbDir 0x34),
   ([0xD6, 0x34], .ldbDir 0x34), ([0xD7, 0x34], .stbDir 0x34), ([0xD8, 0x34], .eorbDir 0x34),
   ([0xD9, 0x34], .adcbDir 0x34), ([0xDA, 0x34], .orbDir 0x34), ([0xDB, 0x34], .addbDir 0x34),
   ([0xDC, 0x34], .lddDir 0x34), ([0xDD, 0x34], .stdDir 0x34), ([0xDE, 0x34], .lduDir 0x34),
   ([0xDF, 0x34], .stuDir 0x34)]

theorem test_words_page1_Dx : words_page1_Dx.all wordOk = true := by decide

/-- Row Ex of R146. -/
def words_page1_Ex : List (List Byte × Instr) :=
  [([0xE0, 0x84], .subbIdx ⟨.zero .x, false⟩), ([0xE1, 0xA5], .cmpbIdx ⟨.accB .y, false⟩), ([0xE2, 0xC6], .sbcbIdx ⟨.accA .u, false⟩),
   ([0xE3, 0xE8, 0x80], .adddIdx ⟨.off8 .s 0x80, false⟩), ([0xE4, 0x89, 0x12, 0x34], .andbIdx ⟨.off16 .x 0x1234, false⟩), ([0xE5, 0xAB], .bitbIdx ⟨.accD .y, false⟩),
   ([0xE6, 0xCC, 0x10], .ldbIdx ⟨.pcr8 .u 0x10, false⟩), ([0xE7, 0x8D, 0x10, 0x00], .stbIdx ⟨.pcr16 .x 0x1000, false⟩), ([0xE8, 0x9F, 0x20, 0x01], .eorbIdx ⟨.ext .x 0x2001, true⟩),
   ([0xE9, 0xB1], .adcbIdx ⟨.inc2 .y, true⟩), ([0xEA, 0xD4], .orbIdx ⟨.zero .u, true⟩), ([0xEB, 0xF8, 0xFE], .addbIdx ⟨.off8 .s 0xFE, true⟩),
   ([0xEC, 0x99, 0x12, 0x34], .lddIdx ⟨.off16 .x 0x1234, true⟩), ([0xED, 0x9B], .stdIdx ⟨.accD .x, true⟩), ([0xEE, 0x9C, 0x01], .lduIdx ⟨.pcr8 .x 0x01, true⟩),
   ([0xEF, 0xBD, 0x00, 0x02], .stuIdx ⟨.pcr16 .y 0x0002, true⟩)]

theorem test_words_page1_Ex : words_page1_Ex.all wordOk = true := by decide

/-- Row Fx of R146. -/
def words_page1_Fx : List (List Byte × Instr) :=
  [([0xF0, 0x56, 0x78], .subbExt 0x5678), ([0xF1, 0x56, 0x78], .cmpbExt 0x5678), ([0xF2, 0x56, 0x78], .sbcbExt 0x5678),
   ([0xF3, 0x56, 0x78], .adddExt 0x5678), ([0xF4, 0x56, 0x78], .andbExt 0x5678), ([0xF5, 0x56, 0x78], .bitbExt 0x5678),
   ([0xF6, 0x56, 0x78], .ldbExt 0x5678), ([0xF7, 0x56, 0x78], .stbExt 0x5678), ([0xF8, 0x56, 0x78], .eorbExt 0x5678),
   ([0xF9, 0x56, 0x78], .adcbExt 0x5678), ([0xFA, 0x56, 0x78], .orbExt 0x5678), ([0xFB, 0x56, 0x78], .addbExt 0x5678),
   ([0xFC, 0x56, 0x78], .lddExt 0x5678), ([0xFD, 0x56, 0x78], .stdExt 0x5678), ([0xFE, 0x56, 0x78], .lduExt 0x5678),
   ([0xFF, 0x56, 0x78], .stuExt 0x5678)]

theorem test_words_page1_Fx : words_page1_Fx.all wordOk = true := by decide

/-- Row R147. -/
def words_page2 : List (List Byte × Instr) :=
  [([0x10, 0x21, 0xFF, 0x10], .lbrn 0xFF10), ([0x10, 0x22, 0xFF, 0x10], .lbhi 0xFF10), ([0x10, 0x23, 0xFF, 0x10], .lbls 0xFF10),
   ([0x10, 0x24, 0xFF, 0x10], .lbhs 0xFF10), ([0x10, 0x25, 0xFF, 0x10], .lblo 0xFF10), ([0x10, 0x26, 0xFF, 0x10], .lbne 0xFF10),
   ([0x10, 0x27, 0xFF, 0x10], .lbeq 0xFF10), ([0x10, 0x28, 0xFF, 0x10], .lbvc 0xFF10), ([0x10, 0x29, 0xFF, 0x10], .lbvs 0xFF10),
   ([0x10, 0x2A, 0xFF, 0x10], .lbpl 0xFF10), ([0x10, 0x2B, 0xFF, 0x10], .lbmi 0xFF10), ([0x10, 0x2C, 0xFF, 0x10], .lbge 0xFF10),
   ([0x10, 0x2D, 0xFF, 0x10], .lblt 0xFF10), ([0x10, 0x2E, 0xFF, 0x10], .lbgt 0xFF10), ([0x10, 0x2F, 0xFF, 0x10], .lble 0xFF10),
   ([0x10, 0x3F], .swi2), ([0x10, 0x83, 0x12, 0x34], .cmpdImm 0x1234), ([0x10, 0x93, 0x34], .cmpdDir 0x34),
   ([0x10, 0xA3, 0x93], .cmpdIdx ⟨.dec2 .x, true⟩), ([0x10, 0xB3, 0x56, 0x78], .cmpdExt 0x5678), ([0x10, 0x8C, 0x12, 0x34], .cmpyImm 0x1234),
   ([0x10, 0x9C, 0x34], .cmpyDir 0x34), ([0x10, 0xAC, 0x95], .cmpyIdx ⟨.accB .x, true⟩), ([0x10, 0xBC, 0x56, 0x78], .cmpyExt 0x5678),
   ([0x10, 0x8E, 0x12, 0x34], .ldyImm 0x1234), ([0x10, 0x9E, 0x34], .ldyDir 0x34), ([0x10, 0xAE, 0x96], .ldyIdx ⟨.accA .x, true⟩),
   ([0x10, 0xBE, 0x56, 0x78], .ldyExt 0x5678), ([0x10, 0x9F, 0x34], .styDir 0x34), ([0x10, 0xAF, 0xFF, 0x80, 0x00], .styIdx ⟨.ext .s 0x8000, true⟩),
   ([0x10, 0xBF, 0x56, 0x78], .styExt 0x5678), ([0x10, 0xCE, 0x12, 0x34], .ldsImm 0x1234), ([0x10, 0xDE, 0x34], .ldsDir 0x34),
   ([0x10, 0xEE, 0x05], .ldsIdx ⟨.off5 .x 0x05, false⟩), ([0x10, 0xFE, 0x56, 0x78], .ldsExt 0x5678), ([0x10, 0xDF, 0x34], .stsDir 0x34),
   ([0x10, 0xEF, 0x3F], .stsIdx ⟨.off5 .y 0x1F, false⟩), ([0x10, 0xFF, 0x56, 0x78], .stsExt 0x5678)]

theorem test_words_page2 : words_page2.all wordOk = true := by decide

/-- Row R148. -/
def words_page3 : List (List Byte × Instr) :=
  [([0x11, 0x3F], .swi3), ([0x11, 0x83, 0x12, 0x34], .cmpuImm 0x1234), ([0x11, 0x93, 0x34], .cmpuDir 0x34),
   ([0x11, 0xA3, 0x80], .cmpuIdx ⟨.inc1 .x, false⟩), ([0x11, 0xB3, 0x56, 0x78], .cmpuExt 0x5678), ([0x11, 0x8C, 0x12, 0x34], .cmpsImm 0x1234),
   ([0x11, 0x9C, 0x34], .cmpsDir 0x34), ([0x11, 0xAC, 0xA1], .cmpsIdx ⟨.inc2 .y, false⟩), ([0x11, 0xBC, 0x56, 0x78], .cmpsExt 0x5678)]

theorem test_words_page3 : words_page3.all wordOk = true := by decide

/-- The rows of R131 that the words above leave out, and the registers of R140. -/
def words_operands : List (List Byte × Instr) :=
  [([0xA6, 0x1F], .ldaIdx ⟨.off5 .x 0x1F, false⟩), ([0xA6, 0xF1], .ldaIdx ⟨.inc2 .s, true⟩),
   ([0xA6, 0xB3], .ldaIdx ⟨.dec2 .y, true⟩), ([0xA6, 0xD5], .ldaIdx ⟨.accB .u, true⟩),
   ([0xA6, 0xF6], .ldaIdx ⟨.accA .s, true⟩), ([0xA6, 0xFC, 0x10], .ldaIdx ⟨.pcr8 .s 0x10, true⟩),
   ([0x1F, 0x05], .tfr .d .pc), ([0x1F, 0x34], .tfr .u .s), ([0x1F, 0xAB], .tfr .cc .dp), ([0x1E, 0xB9], .exg .dp .b)]

theorem test_words_operands : words_operands.all wordOk = true := by decide

/-- Vectors E20 to E26, L24, L25: bytes that are no instruction, each refused by name. -/
theorem test_illegal_bytes :
    decode [0xA6, 0x87] = .error (.illegalIndexed 0x87) ∧ decode [0xA6, 0x90] = .error (.illegalIndexed 0x90) ∧
    decode [0xA6, 0x8F, 0x20, 0x00] = .error (.illegalIndexed 0x8F) ∧
    decode [0x10, 0x10] = .error (.illegalOpcode 2 0x10) ∧ decode [0x01, 0x10] = .error (.illegalOpcode 1 0x01) ∧
    decode [0x10, 0x00] = .error (.illegalOpcode 2 0x00) ∧ decode [0x11, 0x00] = .error (.illegalOpcode 3 0x00) ∧
    decode [0x1F, 0x81] = .error (.illegalRegisterPair 0x81) ∧ decode [0x1F, 0x61] = .error (.illegalRegisterPair 0x61) ∧
    decode [0x10] = .error .truncated ∧ decode [0xA6, 0x89, 0x12] = .error .truncated := by
  refine ⟨?_, ?_, ?_, ?_, ?_, ?_, ?_, ?_, ?_, ?_, ?_⟩ <;> rfl

/-- Table words, the prefix in either byte (log 4). -/
theorem test_table_words :
    decodeTableWord 8 0x86 = some (.ldaImm 0x00) ∧ decodeTableWord 16 0x2110 = some (.lbrn 0x0000) ∧
    decodeTableWord 16 0x1021 = some (.lbrn 0x0000) ∧ decodeTableWord 16 0x113F = some .swi3 ∧
    decodeTableWord 8 0x01 = none := by
  refine ⟨?_, ?_, ?_, ?_, ?_⟩ <;> rfl

/-! ### One instruction at a time (spec/95_test_vectors.md part 2, whose identifiers the names carry)

Every register 0, CC 0, memory 0, PC at the bytes in 0x1000, but for what a vector says. -/

/-- The start's registers. -/
def z : Regs := { State.reset.regs with cc := CC.ofByte 0x00, pc := 0x1000 }

/-- The start of a vector: its bytes, registers and cells. -/
def start (bytes : List Byte) (r : Regs) (cells : List (Word × Byte)) : State :=
  cells.foldl (fun s c => s.poke c.1 c.2) (({ State.reset with regs := r }).load 0x1000 bytes)

/-- One step from the start ends in a state with these registers and cells. -/
def vector (bytes : List Byte) (r : Regs) (cells : List (Word × Byte)) (r' : Regs) (cells' : List (Word × Byte)) : Bool :=
  match step (start bytes r cells) with
  | .next t => decide (t.regs = r') && cells'.all fun c => decide (t.peek c.1 = c.2)
  | _ => false

theorem test_E1 : vector [0xA6, 0x10] { z with x := 0x2010 } [(0x2000, 0x42)] { z with x := 0x2010, a := 0x42, pc := 0x1002 } [] = true := by decide

theorem test_E2 : vector [0xA6, 0x80] { z with x := 0x2000 } [(0x2000, 0x11)] { z with x := 0x2001, a := 0x11, pc := 0x1002 } [] = true := by decide

theorem test_E3 : vector [0xEC, 0xA1] { z with y := 0x2000 } [(0x2000, 0x12), (0x2001, 0x34)] { z with y := 0x2002, a := 0x12, b := 0x34, pc := 0x1002 } [] = true := by decide

theorem test_E4 : vector [0xA6, 0xC2] { z with u := 0x2001 } [(0x2000, 0x22)] { z with u := 0x2000, a := 0x22, pc := 0x1002 } [] = true := by decide

theorem test_E5 : vector [0xA6, 0xE3] { z with s := 0x2002 } [(0x2000, 0x33)] { z with s := 0x2000, a := 0x33, pc := 0x1002 } [] = true := by decide

theorem test_E6 : vector [0xA6, 0x85] { z with x := 0x2010, b := 0xF0 } [(0x2000, 0x44)] { z with x := 0x2010, b := 0xF0, a := 0x44, pc := 0x1002 } [] = true := by decide

theorem test_E7 : vector [0xA6, 0xA6] { z with y := 0x2000, a := 0x05 } [(0x2005, 0x55)] { z with y := 0x2000, a := 0x55, pc := 0x1002 } [] = true := by decide

theorem test_E8 : vector [0xA6, 0x88, 0x80] { z with x := 0x2080 } [(0x2000, 0x66)] { z with x := 0x2080, a := 0x66, pc := 0x1003 } [] = true := by decide

theorem test_E9 : vector [0xA6, 0x89, 0x10, 0x00] { z with x := 0x1000 } [(0x2000, 0x77)] { z with x := 0x1000, a := 0x77, pc := 0x1004 } [] = true := by decide

theorem test_E10 : vector [0xE6, 0x8B] { z with x := 0x1000, a := 0x10, b := 0x00 } [(0x2000, 0x88)] { z with x := 0x1000, a := 0x10, b := 0x88, cc := .ofByte 0x08, pc := 0x1002 } [] = true := by decide

theorem test_E11 : vector [0xA6, 0x8C, 0x10] z [(0x1013, 0x99)] { z with a := 0x99, cc := .ofByte 0x08, pc := 0x1003 } [] = true := by decide

theorem test_E12 : vector [0xA6, 0x8D, 0x0F, 0xFC] z [(0x2000, 0xAA)] { z with a := 0xAA, cc := .ofByte 0x08, pc := 0x1004 } [] = true := by decide

theorem test_E13 : vector [0xA6, 0x9F, 0x30, 0x00] z [(0x3000, 0x20), (0x3001, 0x00), (0x2000, 0xBB)] { z with a := 0xBB, cc := .ofByte 0x08, pc := 0x1004 } [] = true := by decide

theorem test_E14 : vector [0xA6, 0x94] { z with x := 0x3000 } [(0x3000, 0x20), (0x3001, 0x00), (0x2000, 0xCC)] { z with x := 0x3000, a := 0xCC, cc := .ofByte 0x08, pc := 0x1002 } [] = true := by decide

theorem test_E15 : vector [0xA6, 0x91] { z with x := 0x3000 } [(0x3000, 0x20), (0x3001, 0x00), (0x2000, 0xDD)] { z with x := 0x3002, a := 0xDD, cc := .ofByte 0x08, pc := 0x1002 } [] = true := by decide

theorem test_E16 : vector [0xA6, 0xFC, 0x10] z [(0x1013, 0x20), (0x1014, 0x00), (0x2000, 0xEE)] { z with a := 0xEE, cc := .ofByte 0x08, pc := 0x1003 } [] = true := by decide

theorem test_E17 : vector [0xA6, 0x1F] { z with x := 0x0000 } [(0xFFFF, 0x5A)] { z with x := 0x0000, a := 0x5A, pc := 0x1002 } [] = true := by decide

theorem test_E18 : vector [0x96, 0x05] { z with dp := 0x20 } [(0x2005, 0x5A)] { z with dp := 0x20, a := 0x5A, pc := 0x1002 } [] = true := by decide

theorem test_E19 : vector [0xB6, 0x20, 0x00] z [(0x2000, 0x01)] { z with a := 0x01, pc := 0x1003 } [] = true := by decide

theorem test_L1 : vector [0x86, 0x80] { z with cc := .ofByte 0x03 } [] { z with cc := .ofByte 0x09, a := 0x80, pc := 0x1002 } [] = true := by decide

theorem test_L2 : vector [0x86, 0x00] { z with a := 0x55 } [] { z with a := 0x00, cc := .ofByte 0x04, pc := 0x1002 } [] = true := by decide

theorem test_L3 : vector [0xE6, 0x84] { z with x := 0x2000 } [(0x2000, 0x7F)] { z with x := 0x2000, b := 0x7F, pc := 0x1002 } [] = true := by decide

theorem test_L4 : vector [0xCC, 0x80, 0x00] z [] { z with a := 0x80, cc := .ofByte 0x08, pc := 0x1003 } [] = true := by decide

theorem test_L5 : vector [0xBE, 0x20, 0x00] z [(0x2000, 0x12), (0x2001, 0x34)] { z with x := 0x1234, pc := 0x1003 } [] = true := by decide

theorem test_L6 : vector [0x10, 0x8E, 0x00, 0x00] { z with y := 0x1234, cc := .ofByte 0x02 } [] { z with y := 0x0000, cc := .ofByte 0x04, pc := 0x1004 } [] = true := by decide

theorem test_L7 : vector [0xDE, 0x10] z [(0x0010, 0xFE), (0x0011, 0xDC)] { z with u := 0xFEDC, cc := .ofByte 0x08, pc := 0x1002 } [] = true := by decide

theorem test_L8 : vector [0x10, 0xCE, 0x7F, 0x00] z [] { z with s := 0x7F00, pc := 0x1004 } [] = true := by decide

theorem test_L9 : vector [0x97, 0x10] { z with a := 0x00, cc := .ofByte 0x0B } [(0x0010, 0xFF)] { z with a := 0x00, cc := .ofByte 0x05, pc := 0x1002 } [(0x0010, 0x00)] = true := by decide

theorem test_L10 : vector [0xE7, 0x84] { z with b := 0x81, x := 0x2000 } [] { z with b := 0x81, x := 0x2000, cc := .ofByte 0x08, pc := 0x1002 } [(0x2000, 0x81)] = true := by decide

theorem test_L11 : vector [0xFD, 0x20, 0x00] { z with a := 0xAB, b := 0xCD } [] { z with a := 0xAB, b := 0xCD, cc := .ofByte 0x08, pc := 0x1003 } [(0x2000, 0xAB), (0x2001, 0xCD)] = true := by decide

theorem test_L13 : vector [0x10, 0xAF, 0x84] { z with y := 0x00FF, x := 0x2000 } [] { z with y := 0x00FF, x := 0x2000, pc := 0x1003 } [(0x2001, 0xFF)] = true := by decide

theorem test_L14 : vector [0xDF, 0x20] { z with u := 0x8000 } [] { z with u := 0x8000, cc := .ofByte 0x08, pc := 0x1002 } [(0x0020, 0x80)] = true := by decide

theorem test_L15 : vector [0x10, 0xFF, 0x20, 0x00] { z with s := 0x7F00 } [] { z with s := 0x7F00, pc := 0x1004 } [(0x2000, 0x7F)] = true := by decide

theorem test_L16 : vector [0x30, 0x01] { z with x := 0xFFFF } [] { z with x := 0x0000, cc := .ofByte 0x04, pc := 0x1002 } [] = true := by decide

theorem test_L17 : vector [0x31, 0x3F] { z with y := 0x0001 } [] { z with y := 0x0000, cc := .ofByte 0x04, pc := 0x1002 } [] = true := by decide

theorem test_L18 : vector [0x32, 0x7E] { z with s := 0x7F00, cc := .ofByte 0x04 } [] { z with s := 0x7EFE, cc := .ofByte 0x04, pc := 0x1002 } [] = true := by decide

theorem test_L19 : vector [0x33, 0xCB] { z with u := 0x1000, a := 0x00, b := 0x10 } [] { z with u := 0x1010, a := 0x00, b := 0x10, pc := 0x1002 } [] = true := by decide

theorem test_L20 : vector [0x1F, 0x12] { z with x := 0x1234 } [] { z with x := 0x1234, y := 0x1234, pc := 0x1002 } [] = true := by decide

theorem test_L21 : vector [0x1F, 0x8A] { z with a := 0x00, cc := .ofByte 0x50 } [] { z with a := 0x00, cc := .ofByte 0x00, pc := 0x1002 } [] = true := by decide

theorem test_L22 : vector [0x1F, 0x51] z [] { z with x := 0x1002, pc := 0x1002 } [] = true := by decide

theorem test_L23 : vector [0x1F, 0x15] { z with x := 0x2000 } [] { z with x := 0x2000, pc := 0x2000 } [] = true := by decide

theorem test_L26 : vector [0x1E, 0x89] { z with a := 0x12, b := 0x34 } [] { z with a := 0x34, b := 0x12, pc := 0x1002 } [] = true := by decide

theorem test_L27 : vector [0x1E, 0x01] { z with a := 0x12, b := 0x34, x := 0xABCD } [] { z with a := 0xAB, b := 0xCD, x := 0x1234, pc := 0x1002 } [] = true := by decide

theorem test_L28 : vector [0x1E, 0x14] { z with x := 0x7F00, s := 0x1234 } [] { z with x := 0x1234, s := 0x7F00, pc := 0x1002 } [] = true := by decide

theorem test_L29 : vector [0x34, 0xFF] { z with a := 0x0A, b := 0x0B, dp := 0x0D, x := 0x1111, y := 0x2222, u := 0x3333, s := 0x7F00, cc := .ofByte 0x0F } [] { z with a := 0x0A, b := 0x0B, dp := 0x0D, x := 0x1111, y := 0x2222, u := 0x3333, s := 0x7EF4, cc := .ofByte 0x0F, pc := 0x1002 } [(0x7EF4, 0x0F), (0x7EF5, 0x0A), (0x7EF6, 0x0B), (0x7EF7, 0x0D), (0x7EF8, 0x11), (0x7EF9, 0x11), (0x7EFA, 0x22), (0x7EFB, 0x22), (0x7EFC, 0x33), (0x7EFD, 0x33), (0x7EFE, 0x10), (0x7EFF, 0x02)] = true := by decide

theorem test_L30 : vector [0x34, 0x00] { z with s := 0x7F00 } [] { z with s := 0x7F00, pc := 0x1002 } [] = true := by decide

theorem test_L31 : vector [0x36, 0x42] { z with u := 0x6000, s := 0x7F00, a := 0x99 } [] { z with u := 0x5FFD, s := 0x7F00, a := 0x99, pc := 0x1002 } [(0x5FFD, 0x99), (0x5FFE, 0x7F)] = true := by decide

theorem test_L32 : vector [0x35, 0x17] { z with s := 0x7EFB } [(0x7EFB, 0x01), (0x7EFC, 0x0A), (0x7EFD, 0x0B), (0x7EFE, 0x12), (0x7EFF, 0x34)] { z with s := 0x7F00, a := 0x0A, b := 0x0B, x := 0x1234, cc := .ofByte 0x01, pc := 0x1002 } [] = true := by decide

theorem test_L33 : vector [0x35, 0x80] { z with s := 0x7EFE } [(0x7EFE, 0x20), (0x7EFF, 0x00)] { z with s := 0x7F00, pc := 0x2000 } [] = true := by decide

theorem test_L34 : vector [0x37, 0x40] { z with u := 0x6000 } [(0x6000, 0x7F), (0x6001, 0x00)] { z with u := 0x6002, s := 0x7F00, pc := 0x1002 } [] = true := by decide

theorem test_A1 : vector [0x8B, 0x01] { z with a := 0x7F } [] { z with a := 0x80, cc := .ofByte 0x2A, pc := 0x1002 } [] = true := by decide

theorem test_A2 : vector [0x8B, 0x01] { z with a := 0xFF } [] { z with a := 0x00, cc := .ofByte 0x25, pc := 0x1002 } [] = true := by decide

theorem test_A3 : vector [0x89, 0x00] { z with a := 0x0F, cc := .ofByte 0x01 } [] { z with a := 0x10, cc := .ofByte 0x20, pc := 0x1002 } [] = true := by decide

theorem test_A4 : vector [0xC9, 0x7F] { z with b := 0x80, cc := .ofByte 0x01 } [] { z with b := 0x00, cc := .ofByte 0x25, pc := 0x1002 } [] = true := by decide

theorem test_A5 : vector [0xDB, 0x10] { z with b := 0x10 } [(0x0010, 0x20)] { z with b := 0x30, pc := 0x1002 } [] = true := by decide

theorem test_A6 : vector [0xC3, 0x00, 0x01] { z with a := 0x7F, b := 0xFF } [] { z with a := 0x80, b := 0x00, cc := .ofByte 0x0A, pc := 0x1003 } [] = true := by decide

theorem test_A7 : vector [0xC3, 0x00, 0x01] { z with a := 0xFF, b := 0xFF } [] { z with a := 0x00, b := 0x00, cc := .ofByte 0x05, pc := 0x1003 } [] = true := by decide

theorem test_A8 : vector [0x80, 0x01] { z with a := 0x80, cc := .ofByte 0x20 } [] { z with a := 0x7F, cc := .ofByte 0x22, pc := 0x1002 } [] = true := by decide

theorem test_A9 : vector [0x80, 0x01] { z with a := 0x00 } [] { z with a := 0xFF, cc := .ofByte 0x09, pc := 0x1002 } [] = true := by decide

theorem test_A10 : vector [0xC0, 0x42] { z with b := 0x42 } [] { z with b := 0x00, cc := .ofByte 0x04, pc := 0x1002 } [] = true := by decide

theorem test_A11 : vector [0x82, 0x00] { z with a := 0x00, cc := .ofByte 0x01 } [] { z with a := 0xFF, cc := .ofByte 0x09, pc := 0x1002 } [] = true := by decide

theorem test_A12 : vector [0xC2, 0x01] { z with b := 0x80, cc := .ofByte 0x01 } [] { z with b := 0x7E, cc := .ofByte 0x02, pc := 0x1002 } [] = true := by decide

theorem test_A13 : vector [0x83, 0x00, 0x01] z [] { z with a := 0xFF, b := 0xFF, cc := .ofByte 0x09, pc := 0x1003 } [] = true := by decide

theorem test_A14 : vector [0x81, 0x42] { z with a := 0x42 } [] { z with a := 0x42, cc := .ofByte 0x04, pc := 0x1002 } [] = true := by decide

theorem test_A15 : vector [0xC1, 0x01] { z with b := 0x80 } [] { z with b := 0x80, cc := .ofByte 0x02, pc := 0x1002 } [] = true := by decide

theorem test_A16 : vector [0x10, 0x83, 0x12, 0x34] { z with a := 0x12, b := 0x33 } [] { z with a := 0x12, b := 0x33, cc := .ofByte 0x09, pc := 0x1004 } [] = true := by decide

theorem test_A17 : vector [0x8C, 0x80, 0x00] { z with x := 0x7FFF } [] { z with x := 0x7FFF, cc := .ofByte 0x0B, pc := 0x1003 } [] = true := by decide

theorem test_A18 : vector [0x10, 0x8C, 0x00, 0x00] z [] { z with cc := .ofByte 0x04, pc := 0x1004 } [] = true := by decide

theorem test_A19 : vector [0x11, 0x83, 0x00, 0x01] { z with u := 0x0002 } [] { z with u := 0x0002, pc := 0x1004 } [] = true := by decide

theorem test_A20 : vector [0x11, 0x8C, 0x7F, 0x00] { z with s := 0x7F00 } [] { z with s := 0x7F00, cc := .ofByte 0x04, pc := 0x1004 } [] = true := by decide

theorem test_A21 : vector [0x00, 0x10] z [(0x0010, 0x80)] { z with cc := .ofByte 0x0B, pc := 0x1002 } [(0x0010, 0x80)] = true := by decide

theorem test_A22 : vector [0x40] { z with a := 0x00, cc := .ofByte 0x01 } [] { z with a := 0x00, cc := .ofByte 0x04, pc := 0x1001 } [] = true := by decide

theorem test_A23 : vector [0x50] { z with b := 0x01 } [] { z with b := 0xFF, cc := .ofByte 0x09, pc := 0x1001 } [] = true := by decide

theorem test_A24 : vector [0x0C, 0x10] z [(0x0010, 0x7F)] { z with cc := .ofByte 0x0A, pc := 0x1002 } [(0x0010, 0x80)] = true := by decide

theorem test_A25 : vector [0x4C] { z with a := 0xFF, cc := .ofByte 0x01 } [] { z with a := 0x00, cc := .ofByte 0x05, pc := 0x1001 } [] = true := by decide

theorem test_A26 : vector [0x5C] { z with b := 0x00 } [] { z with b := 0x01, pc := 0x1001 } [] = true := by decide

theorem test_A27 : vector [0x0A, 0x10] z [(0x0010, 0x80)] { z with cc := .ofByte 0x02, pc := 0x1002 } [(0x0010, 0x7F)] = true := by decide

theorem test_A28 : vector [0x4A] { z with a := 0x00 } [] { z with a := 0xFF, cc := .ofByte 0x08, pc := 0x1001 } [] = true := by decide

theorem test_A29 : vector [0x5A] { z with b := 0x01 } [] { z with b := 0x00, cc := .ofByte 0x04, pc := 0x1001 } [] = true := by decide

theorem test_A30 : vector [0x0F, 0x10] { z with cc := .ofByte 0x0B } [(0x0010, 0x55)] { z with cc := .ofByte 0x04, pc := 0x1002 } [(0x0010, 0x00)] = true := by decide

theorem test_A31 : vector [0x4F] { z with a := 0x80, cc := .ofByte 0x29 } [] { z with a := 0x00, cc := .ofByte 0x24, pc := 0x1001 } [] = true := by decide

theorem test_A32 : vector [0x5F] { z with b := 0x01 } [] { z with b := 0x00, cc := .ofByte 0x04, pc := 0x1001 } [] = true := by decide

theorem test_A33 : vector [0x0D, 0x10] { z with cc := .ofByte 0x03 } [(0x0010, 0x80)] { z with cc := .ofByte 0x09, pc := 0x1002 } [] = true := by decide

theorem test_A34 : vector [0x4D] { z with cc := .ofByte 0x02 } [] { z with cc := .ofByte 0x04, pc := 0x1001 } [] = true := by decide

theorem test_A35 : vector [0x5D] { z with b := 0x01 } [] { z with b := 0x01, pc := 0x1001 } [] = true := by decide

theorem test_A36 : vector [0x3D] { z with a := 0x10, b := 0x08 } [] { z with a := 0x00, b := 0x80, cc := .ofByte 0x01, pc := 0x1001 } [] = true := by decide

theorem test_A37 : vector [0x3D] { z with a := 0x00, b := 0x05 } [] { z with a := 0x00, b := 0x00, cc := .ofByte 0x04, pc := 0x1001 } [] = true := by decide

theorem test_A41 : vector [0x3A] { z with x := 0xFFFF, b := 0x01, cc := .ofByte 0x00 } [] { z with x := 0x0000, b := 0x01, cc := .ofByte 0x00, pc := 0x1001 } [] = true := by decide

theorem test_S1 : vector [0x84, 0x0F] { z with a := 0xF0, cc := .ofByte 0x03 } [] { z with a := 0x00, cc := .ofByte 0x05, pc := 0x1002 } [] = true := by decide

theorem test_S2 : vector [0xC4, 0x81] { z with b := 0xFF } [] { z with b := 0x81, cc := .ofByte 0x08, pc := 0x1002 } [] = true := by decide

theorem test_S3 : vector [0x8A, 0x80] { z with a := 0x01 } [] { z with a := 0x81, cc := .ofByte 0x08, pc := 0x1002 } [] = true := by decide

theorem test_S4 : vector [0xCA, 0x00] { z with b := 0x00 } [] { z with b := 0x00, cc := .ofByte 0x04, pc := 0x1002 } [] = true := by decide

theorem test_S5 : vector [0x88, 0xFF] { z with a := 0xFF } [] { z with a := 0x00, cc := .ofByte 0x04, pc := 0x1002 } [] = true := by decide

theorem test_S6 : vector [0xC8, 0x0F] { z with b := 0xF0 } [] { z with b := 0xFF, cc := .ofByte 0x08, pc := 0x1002 } [] = true := by decide

theorem test_S7 : vector [0x85, 0x80] { z with a := 0x80 } [] { z with a := 0x80, cc := .ofByte 0x08, pc := 0x1002 } [] = true := by decide

theorem test_S8 : vector [0xC5, 0x01] { z with b := 0x80 } [] { z with b := 0x80, cc := .ofByte 0x04, pc := 0x1002 } [] = true := by decide

theorem test_S9 : vector [0x1C, 0xAF] { z with cc := .ofByte 0xFF } [] { z with cc := .ofByte 0xAF, pc := 0x1002 } [] = true := by decide

theorem test_S10 : vector [0x1A, 0x50] { z with cc := .ofByte 0x00 } [] { z with cc := .ofByte 0x50, pc := 0x1002 } [] = true := by decide

theorem test_S11 : vector [0x03, 0x10] z [] { z with cc := .ofByte 0x09, pc := 0x1002 } [(0x0010, 0xFF)] = true := by decide

theorem test_S12 : vector [0x43] { z with a := 0xFF } [] { z with a := 0x00, cc := .ofByte 0x05, pc := 0x1001 } [] = true := by decide

theorem test_S13 : vector [0x53] { z with b := 0x55 } [] { z with b := 0xAA, cc := .ofByte 0x09, pc := 0x1001 } [] = true := by decide

theorem test_S14 : vector [0x04, 0x10] z [(0x0010, 0x01)] { z with cc := .ofByte 0x05, pc := 0x1002 } [(0x0010, 0x00)] = true := by decide

theorem test_S15 : vector [0x44] { z with a := 0x80, cc := .ofByte 0x02 } [] { z with a := 0x40, cc := .ofByte 0x02, pc := 0x1001 } [] = true := by decide

theorem test_S16 : vector [0x54] { z with b := 0x03 } [] { z with b := 0x01, cc := .ofByte 0x01, pc := 0x1001 } [] = true := by decide

theorem test_S17 : vector [0x07, 0x10] z [(0x0010, 0x81)] { z with cc := .ofByte 0x09, pc := 0x1002 } [(0x0010, 0xC0)] = true := by decide

theorem test_S18 : vector [0x47] { z with a := 0x02 } [] { z with a := 0x01, pc := 0x1001 } [] = true := by decide

theorem test_S19 : vector [0x57] { z with b := 0xFF } [] { z with b := 0xFF, cc := .ofByte 0x09, pc := 0x1001 } [] = true := by decide

theorem test_S20 : vector [0x08, 0x10] z [(0x0010, 0x40)] { z with cc := .ofByte 0x0A, pc := 0x1002 } [(0x0010, 0x80)] = true := by decide

theorem test_S21 : vector [0x48] { z with a := 0x80 } [] { z with a := 0x00, cc := .ofByte 0x07, pc := 0x1001 } [] = true := by decide

theorem test_S22 : vector [0x58] { z with b := 0xC0 } [] { z with b := 0x80, cc := .ofByte 0x09, pc := 0x1001 } [] = true := by decide

theorem test_S23 : vector [0x09, 0x10] { z with cc := .ofByte 0x01 } [(0x0010, 0x80)] { z with cc := .ofByte 0x03, pc := 0x1002 } [(0x0010, 0x01)] = true := by decide

theorem test_S24 : vector [0x49] { z with a := 0x40 } [] { z with a := 0x80, cc := .ofByte 0x0A, pc := 0x1001 } [] = true := by decide

theorem test_S25 : vector [0x59] { z with b := 0x01, cc := .ofByte 0x01 } [] { z with b := 0x03, cc := .ofByte 0x00, pc := 0x1001 } [] = true := by decide

theorem test_S26 : vector [0x06, 0x10] { z with cc := .ofByte 0x01 } [(0x0010, 0x01)] { z with cc := .ofByte 0x09, pc := 0x1002 } [(0x0010, 0x80)] = true := by decide

theorem test_S27 : vector [0x46] { z with a := 0x02 } [] { z with a := 0x01, pc := 0x1001 } [] = true := by decide

theorem test_S28 : vector [0x56] { z with b := 0x01 } [] { z with b := 0x00, cc := .ofByte 0x05, pc := 0x1001 } [] = true := by decide

theorem test_B37 : vector [0x8D, 0x10] { z with s := 0x7F00 } [] { z with s := 0x7EFE, pc := 0x1012 } [(0x7EFE, 0x10), (0x7EFF, 0x02)] = true := by decide

theorem test_B38 : vector [0x17, 0xFF, 0xFD] { z with s := 0x7F00 } [] { z with s := 0x7EFE, pc := 0x1000 } [(0x7EFE, 0x10), (0x7EFF, 0x03)] = true := by decide

theorem test_B39 : vector [0x7E, 0x20, 0x00] z [] { z with pc := 0x2000 } [] = true := by decide

theorem test_B40 : vector [0x6E, 0x94] { z with x := 0x3000 } [(0x3000, 0x20), (0x3001, 0x00)] { z with x := 0x3000, pc := 0x2000 } [] = true := by decide

theorem test_B41 : vector [0x0E, 0x80] { z with dp := 0x20 } [] { z with dp := 0x20, pc := 0x2080 } [] = true := by decide

theorem test_B42 : vector [0xBD, 0x20, 0x00] { z with s := 0x7F00 } [] { z with s := 0x7EFE, pc := 0x2000 } [(0x7EFE, 0x10), (0x7EFF, 0x03)] = true := by decide

theorem test_B43 : vector [0xAD, 0x84] { z with s := 0x7F00, x := 0x2000 } [] { z with s := 0x7EFE, x := 0x2000, pc := 0x2000 } [(0x7EFE, 0x10), (0x7EFF, 0x02)] = true := by decide

theorem test_B44 : vector [0x39] { z with s := 0x7EFE } [(0x7EFE, 0x12), (0x7EFF, 0x34)] { z with s := 0x7F00, pc := 0x1234 } [] = true := by decide

theorem test_Y1 : vector [0x12] { z with cc := .ofByte 0xFF } [] { z with cc := .ofByte 0xFF, pc := 0x1001 } [] = true := by decide

theorem test_Y2 : vector [0x13] { z with cc := .ofByte 0x50 } [] { z with cc := .ofByte 0x50, pc := 0x1001 } [] = true := by decide

theorem test_Y3 : vector [0x3C, 0xEF] { z with s := 0x7F00, cc := .ofByte 0x50 } [] { z with s := 0x7EF4, cc := .ofByte 0xC0, pc := 0x1002 } [(0x7EF4, 0xC0), (0x7EFE, 0x10), (0x7EFF, 0x02)] = true := by decide

theorem test_Y4 : vector [0x3F] { z with s := 0x7F00 } [(0xFFFA, 0x30), (0xFFFB, 0x00)] { z with s := 0x7EF4, cc := .ofByte 0xD0, pc := 0x3000 } [(0x7EF4, 0x80), (0x7EFE, 0x10), (0x7EFF, 0x01)] = true := by decide

theorem test_Y5 : vector [0x10, 0x3F] { z with s := 0x7F00 } [(0xFFF4, 0x31), (0xFFF5, 0x00)] { z with s := 0x7EF4, cc := .ofByte 0x80, pc := 0x3100 } [(0x7EF4, 0x80), (0x7EFE, 0x10), (0x7EFF, 0x02)] = true := by decide

theorem test_Y6 : vector [0x11, 0x3F] { z with s := 0x7F00 } [(0xFFF2, 0x32), (0xFFF3, 0x00)] { z with s := 0x7EF4, cc := .ofByte 0x80, pc := 0x3200 } [(0x7EF4, 0x80), (0x7EFE, 0x10), (0x7EFF, 0x02)] = true := by decide

theorem test_Y7 : vector [0x3B] { z with s := 0x7EFD } [(0x7EFD, 0x00), (0x7EFE, 0x12), (0x7EFF, 0x34)] { z with s := 0x7F00, pc := 0x1234 } [] = true := by decide

theorem test_Y8 : vector [0x3B] { z with s := 0x7EF4 } [(0x7EF4, 0x80), (0x7EF5, 0x0A), (0x7EF6, 0x0B), (0x7EF7, 0x0D), (0x7EF8, 0x11), (0x7EF9, 0x11), (0x7EFA, 0x22), (0x7EFB, 0x22), (0x7EFC, 0x33), (0x7EFD, 0x33), (0x7EFE, 0x12), (0x7EFF, 0x34)] { z with s := 0x7F00, a := 0x0A, b := 0x0B, x := 0x1111, y := 0x2222, u := 0x3333, dp := 0x0D, cc := .ofByte 0x80, pc := 0x1234 } [] = true := by decide

/-- Vectors B1 to B36: flags, bytes, the PC after. -/
def branchVectors : List (Byte × List Byte × Word) :=
  [(0x00, [0x20, 0x10], 0x1012), (0x00, [0x20, 0xFE], 0x1000), (0x00, [0x21, 0xFF], 0x1002),
   (0x00, [0x22, 0x10], 0x1012), (0x04, [0x22, 0x10], 0x1002), (0x01, [0x23, 0x10], 0x1012),
   (0x00, [0x24, 0x10], 0x1012), (0x00, [0x25, 0x10], 0x1002), (0x00, [0x26, 0x10], 0x1012),
   (0x04, [0x27, 0xF0], 0x0FF2), (0x02, [0x28, 0x10], 0x1002), (0x02, [0x29, 0x10], 0x1012),
   (0x08, [0x2A, 0x10], 0x1002), (0x08, [0x2B, 0x10], 0x1012), (0x0A, [0x2C, 0x10], 0x1012),
   (0x08, [0x2D, 0x10], 0x1012), (0x0A, [0x2E, 0x10], 0x1012), (0x04, [0x2E, 0x10], 0x1002),
   (0x02, [0x2F, 0x10], 0x1012), (0x00, [0x16, 0x7F, 0xFF], 0x9002), (0x00, [0x16, 0xFF, 0xFD], 0x1000),
   (0x00, [0x10, 0x21, 0x12, 0x34], 0x1004), (0x01, [0x10, 0x22, 0x00, 0x10], 0x1004), (0x04, [0x10, 0x23, 0x00, 0x10], 0x1014),
   (0x00, [0x10, 0x24, 0x00, 0x10], 0x1014), (0x01, [0x10, 0x25, 0x00, 0x10], 0x1014), (0x04, [0x10, 0x26, 0x00, 0x10], 0x1004),
   (0x04, [0x10, 0x27, 0xFF, 0xF0], 0x0FF4), (0x00, [0x10, 0x28, 0x00, 0x10], 0x1014), (0x00, [0x10, 0x29, 0x00, 0x10], 0x1004),
   (0x00, [0x10, 0x2A, 0x00, 0x10], 0x1014), (0x00, [0x10, 0x2B, 0x00, 0x10], 0x1004), (0x08, [0x10, 0x2C, 0x00, 0x10], 0x1004),
   (0x02, [0x10, 0x2D, 0x00, 0x10], 0x1014), (0x00, [0x10, 0x2E, 0x00, 0x10], 0x1014), (0x04, [0x10, 0x2F, 0x00, 0x10], 0x1014)]

theorem test_B1_to_B36 :
    (branchVectors.all fun v => vector v.2.1 { z with cc := .ofByte v.1 } [] { z with cc := .ofByte v.1, pc := v.2.2 } []) =
      true := by decide

theorem test_L12_rom : vector [0xBF, 0xFF, 0xFF] { z with x := 0x1234 } [] { z with x := 0x1234, pc := 0x1003 }
    [(0x0000, 0x34), (0xFFFF, 0x00)] = true := by decide

/-- Vector A40, but for V (log 7). -/
theorem test_A40 : (match exec .sex (start [] { z with a := 0x55, b := 0x7F } []) with
    | .next t => decide (t.regs.a = 0x00) && !t.regs.cc.n && !t.regs.cc.z
    | _ => false) = true := by decide

/-- Vector A38's second step, but for V (log 7). -/
theorem test_A38 : (match exec .daa (start [] { z with a := 0x11, cc := .ofByte 0x20 } []) with
    | .next t => decide (t.regs.a = 0x17) && !t.regs.cc.c && t.regs.cc.h
    | _ => false) = true := by decide

/-- Vector A39's second step, but for V (log 7). -/
theorem test_A39 : (match exec .daa (start [] { z with a := 0x32, cc := .ofByte 0x23 } []) with
    | .next t => decide (t.regs.a = 0x98) && t.regs.cc.c && t.regs.cc.n
    | _ => false) = true := by decide

/-! ### What a vector says beyond registers and cells -/

/-- A test of the state after one step. -/
def afterStep (s : State) (p : State → Bool) : Bool :=
  match step s with
  | .next t => p t
  | _ => false

/-- A start with request latches. -/
def pending (l : Lines) (bytes : List Byte) (r : Regs) (cells : List (Word × Byte)) : State :=
  { start bytes r cells with lines := l }

theorem test_L8_arms : afterStep (start [0x10, 0xCE, 0x7F, 0x00] z []) (fun t => t.lines.nmiArmed) = true := by decide

theorem test_L18_arms : afterStep (start [0x32, 0x7E] z []) (fun t => t.lines.nmiArmed) = true := by decide

theorem test_L28_arms : afterStep (start [0x1E, 0x14] z []) (fun t => t.lines.nmiArmed) = true := by decide

theorem test_L34_arms : afterStep (start [0x37, 0x40] z []) (fun t => t.lines.nmiArmed) = true := by decide

theorem test_E5_does_not_arm : afterStep (start [0xA6, 0xE3] z []) (fun t => !t.lines.nmiArmed) = true := by decide

theorem test_Y2_state : afterStep (start [0x13] z []) (fun t => t.cpuState == .syncing) = true := by decide

theorem test_Y3_state : afterStep (start [0x3C, 0xEF] z []) (fun t => t.cpuState == .waitingInterrupt) = true := by decide

theorem test_X1 :
    afterStep (pending ⟨false, false, true, false⟩ [0x12] { z with s := 0x7F00 } [(0xFFF8, 0x40)]) (fun t =>
      decide (t.regs = { z with s := 0x7EF4, cc := .ofByte 0x90, pc := 0x4000 }) && !t.lines.irqReq &&
        decide (t.peek 0x7EF4 = 0x80) && decide (t.peek 0x7EFE = 0x10)) = true := by decide

theorem test_X2 :
    afterStep (pending ⟨false, true, false, false⟩ [0x12] { z with s := 0x7F00, cc := .ofByte 0x80 } [(0xFFF6, 0x41)]) (fun t =>
      decide (t.regs = { z with s := 0x7EFD, cc := .ofByte 0x50, pc := 0x4100 }) && !t.lines.firqReq &&
        decide (t.peek 0x7EFE = 0x10)) = true := by decide

theorem test_X3 :
    afterStep (pending ⟨false, false, true, false⟩ [0x12] { z with cc := .ofByte 0x10 } []) (fun t =>
      decide (t.regs.pc = 0x1001) && t.lines.irqReq) = true := by decide

theorem test_X4 :
    afterStep (pending ⟨true, false, false, false⟩ [0x12] z []) (fun t =>
      decide (t.regs.pc = 0x1001) && t.lines.nmiReq) = true := by decide

theorem test_X5 :
    afterStep (pending ⟨true, true, true, true⟩ [0x12] { z with s := 0x7F00 } [(0xFFFC, 0x42)]) (fun t =>
      decide (t.regs = { z with s := 0x7EF4, cc := .ofByte 0xD0, pc := 0x4200 }) &&
        decide (t.lines = ⟨false, true, true, true⟩)) = true := by decide

theorem test_X6_wake :
    afterStep { pending ⟨false, true, false, false⟩ [] { z with s := 0x7EF4, cc := .ofByte 0x90 } [(0xFFF6, 0x41)] with
      cpuState := .waitingInterrupt } (fun t =>
      decide (t.regs = { z with s := 0x7EF4, cc := .ofByte 0xD0, pc := 0x4100 }) && !t.lines.firqReq) = true := by decide

theorem test_X7_wake :
    afterStep { pending ⟨false, false, true, false⟩ [] { z with cc := .ofByte 0x10 } [] with cpuState := .syncing } (fun t =>
      decide (t.regs.pc = 0x1000) && t.cpuState == .running && t.lines.irqReq) = true := by decide

theorem test_X8 : afterStep (start [0x01, 0x00] { z with a := 0x12 } []) (fun t =>
    decide (t.regs = { z with a := 0x12 }) && t.cpuState == .exception && t.exe.halted == some .illegalOpcode) = true := by
  decide

/-! ### The bus and the devices (sections 2.8 to 2.13 of spec/95_test_vectors.md) -/

theorem test_M1 : vector [0xB7, 0x80, 0x00] { z with a := 0x12 } [(0x8000, 0x7E)] { z with a := 0x12, pc := 0x1003 }
    [(0x8000, 0x7E)] = true := by decide

theorem test_M2 : vector [0xB6, 0xFF, 0x10] { z with a := 0x55 } [] { z with cc := .ofByte 0x04, pc := 0x1003 } [] = true := by
  decide

theorem test_M4 : vector [0xBE, 0xFF, 0xFF] z [(0xFFFF, 0x34), (0x0000, 0x56)] { z with x := 0x3456, pc := 0x1003 } [] =
    true := by decide

theorem test_M5 : afterStep (start [0xFD, 0xFF, 0x02] { z with a := 0xFF, b := 0x04 } []) (fun t =>
    decide (t.dev.pia0.ddrb = 0xFF) && decide (t.dev.pia0.crb = 0x04)) = true := by decide

/-- A start with the registers of PIA0. -/
def withPia0 (p : Pia) (bytes : List Byte) : State :=
  let s := start bytes z []
  { s with dev := { s.dev with pia0 := p } }

theorem test_M9 : afterStep (withPia0 ⟨0, 0xFF, 0, 0xFF, 0, 0x85⟩ [0x7F, 0xFF, 0x02]) (fun t =>
    decide (t.dev.pia0 = ⟨0, 0x00, 0, 0xFF, 0, 0x85⟩) && !t.lines.irqReq && decide (t.regs.cc.toByte = 0x04)) = true := by
  decide

theorem test_M10 : afterStep (withPia0 ⟨0, 0xFF, 0, 0xFF, 0, 0x85⟩ [0x7D, 0xFF, 0x02]) (fun t =>
    decide (t.dev.pia0.crb = 0x05)) = true := by decide

theorem test_Q3 :
    ((State.reset.writeByte 0xFF01 0x3C).writeByte 0xFF03 0x34).host.calls.head? = some (.audioMuxSelect 1) := by decide

/-- Vectors Q4, Q5 and Q6, the rows alone: the other bits of the read are draws. -/
theorem test_Q4_to_Q6 :
    let kbd : KeyMatrix := Vector.ofFn fun c => if c = 2 then 0b0001000 else 0
    keyboardRows ⟨0, 0xFB, 0, 0xFF, 0x04, 0x04⟩ kbd = 0b1110111 ∧
      keyboardRows ⟨0, 0xDF, 0, 0xFF, 0x04, 0x04⟩ kbd = 0b1111111 ∧
      keyboardRows ⟨0, 0xFB, 0, 0x00, 0x04, 0x04⟩ kbd = 0b1111111 := by decide

theorem test_Q8 :
    let s := (withPia0 ⟨0, 0, 0, 0, 0, 0x04⟩ []).cb1Event .pia0
    s.dev.pia0.crb = 0x84 ∧ s.lines.irqReq = false ∧ (s.writeByte 0xFF03 0x05).lines.irqReq = true := by decide

theorem test_Q12 :
    let s := ((State.reset.writeByte 0xFF21 0x04).writeByte 0xFF20 0xFC).writeByte 0xFF20 0x3F
    s.host.calls.take 2 = [.writeDac 15, .writeDac 63] ∧ s.dev.pia1.ora = 0x3F := by decide

theorem test_Q14 : ((State.reset.writeByte 0xFF23 0x04).writeByte 0xFF22 0x88).dev.piaVideoMode = 0x88 := by decide

theorem test_Q16 :
    ((State.reset.writeByte 0xFF21 0x3C).writeByte 0xFF21 0x34).host.calls = [.motorLedOff 0x02, .motorLedOn 0x02] := by decide

theorem test_G1 : afterStep (start [0x7F, 0xFF, 0xC9] z []) (fun t =>
    videoRamOffset t.dev.sam == 2 && videoBase t.dev.sam == 0x0400) = true := by decide

theorem test_G4_to_G10 :
    currentMode 0 0x00 = .alphaInt ∧ currentMode 0 0x10 = .alphaExt ∧ currentMode 2 0x00 = .semi 2 ∧
    currentMode 4 0x00 = .semi 3 ∧ currentMode 6 0x00 = .semi 6 ∧ currentMode 1 0x00 = .uncovered ∧
    currentMode 0 0x80 = .uncovered ∧ currentMode 3 0xF0 = .graphics 7 ∧ currentMode 6 0x80 = .graphics 0 ∧
    currentMode 1 0xC8 = .graphics 4 ∧ currentMode 7 0x00 = .dma := by decide

/-- Vectors G12, G13, G15 to G19: the pixel of byte `b` at its window offset. -/
theorem test_pixels :
    (let m : Nat → Byte := fun i => if i = 0 then 0x9A else 0
     pixel .alphaInt false m 11 3 = .yellow ∧ pixel .alphaInt false m 0 4 = .black) ∧
    (let m : Nat → Byte := fun i => if i = 0 then 0xE1 else 0
     pixel .alphaExt true m 3 3 = .orange ∧ pixel .alphaExt true m 4 3 = .black ∧ pixel .alphaExt true m 8 4 = .orange) ∧
    (let m : Nat → Byte := fun i => if i = 0 then 0x80 else 0
     pixel (.graphics 7) false m 0 0 = .green ∧ pixel (.graphics 7) false m 0 1 = .black ∧ pixel (.graphics 7) true m 0 0 = .buff) ∧
    (let m : Nat → Byte := fun i => if i = 0 then 0x1B else 0
     pixel (.graphics 0) false m 2 3 = .green ∧ pixel (.graphics 0) false m 2 4 = .yellow ∧
       pixel (.graphics 0) false m 0 8 = .blue ∧ pixel (.graphics 0) false m 0 15 = .red) ∧
    (let m : Nat → Byte := fun i => if i = 0x60 then 0x8F else 0x80
     pixel (.semi 2) false m 18 0 = .green ∧ pixel (.semi 2) false m 17 0 = .black) ∧
    (let m : Nat → Byte := fun i => if i = 0x80 then 0x8F else 0x80
     pixel (.semi 3) false m 16 0 = .green ∧ pixel (.semi 3) false m 15 0 = .black) := by decide

/-- The image of section 2.11: a VDK of 40 tracks and one side, byte 4876 being 0xA5. -/
def vdkState : State :=
  let s := start [] z []
  { s with dev := s.dev.mount ⟨.vdk, 1, 184332, [(2, 0x0C), (8, 0x28), (9, 0x01), (4876, 0xA5)]⟩ }

/-- Scenario 4 up to its first read. -/
theorem test_scenario_4 :
    let s := (((vdkState.writeByte 0xFF43 0x01).writeByte 0xFF40 0x10).writeByte 0xFF42 0x02).writeDisk 0 0x88
    s.dev.disk.xferOffset = 4876 ∧ s.dev.disk.status = 0x01 ∧ s.dev.disk.diskState = .read := by decide

theorem test_D5_D6 :
    let s (track sector : Byte) : State := (vdkState.writeByte 0xFF41 track).writeByte 0xFF42 sector
    ((s 1 1).writeByte 0xFF40 0x8A).dev.disk.status = 0x18 ∧ ((s 40 1).writeByte 0xFF40 0x88).dev.disk.status = 0x18 ∧
      ((s 1 0).writeByte 0xFF40 0x88).dev.disk.intrqArmed = true := by decide

theorem test_D7 : afterStep (start [0xB7, 0xFF, 0x40] { z with a := 0x20 } []) (fun t =>
    decide (t.regs.pc = 0x1003) && t.exe.halted == some .diskUnknownCommand && decide (t.dev.disk.cmd = 0x20)) = true := by decide

/-- Vector D8 as far as the command: the registers stay, a transfer of six bytes begins. -/
theorem test_D8 :
    let d := (((vdkState.writeByte 0xFF41 0x03).writeByte 0xFF42 0x07).writeByte 0xFF40 0xC0).dev.disk
    d.track = 0x03 ∧ d.sector = 0x07 ∧ d.status = 0x01 ∧ d.diskState = .readId ∧ d.bufIndex = 0 ∧ d.bufLen = 6 := by decide

theorem test_D10 :
    let s := { vdkState with dev := { vdkState.dev with disk := { Disk.reset with diskState := .read, bufLen := 256, status := 0x01 } } }
    s.diskTick.dev.disk.status = 0x03 ∧ s.diskTick.dev.pia1.crb = 0x80 ∧
      (s.diskTick.readByte 0xFF43).2.dev.disk.status = 0x01 := by decide

theorem test_D17 :
    (State.reset.writeByte 0xFF40 0x88).dev.disk = { Disk.reset with cmd := 0x88 } := by decide

theorem test_D20 :
    let s := State.reset.writeByte 0xFF48 0x24
    s.dev.disk.motorOn = true ∧ s.dev.disk.doubleDensity = true ∧ s.dev.disk.nmiInhibit = false ∧
      (s.writeByte 0xFF48 0x04).dev.disk.nmiInhibit = true ∧ (s.readByte 0xFF48).1 = 0x00 := by decide

/-- The latch by another layout: the motor on bit 7, NMI inhibited by bit 6. -/
theorem test_latch_layout :
    let p : LatchLayout := { LatchLayout.dragonDos with motorOn := ⟨7, false⟩, nmiInhibit := ⟨6, false⟩ }
    let s := { State.reset with dev := { State.reset.dev with latchLayout := p } }.writeByte 0xFF48 0xC2
    s.dev.disk.motorOn = true ∧ s.dev.disk.nmiInhibit = true ∧ s.dev.disk.drive = 2 ∧
      s.host.calls = [.motorLedOn 0x01] := by decide

/-- A cartridge loaded at init (R681): its bytes, the EXEC vector and the two clock readings of R651. -/
theorem test_cartridge_at_init :
    let s := powerOn ⟨[], [], [], some [0x7E, 0xC0], [], 0, ⟨.none, 1, 0, []⟩, .dragonDos, 5, 6⟩
    s.peek 0xC000 = 0x7E ∧ s.peek 0xC001 = 0xC0 ∧ s.peek 0x009D = 0xC0 ∧ s.peek 0x009E = 0x00 ∧
      s.exe.lastRefreshUs = 5 ∧ s.exe.lastTickUs = 6 := by decide

/-- An image loaded to the DOS window reaches the last Rom cell before the device windows and no cell after it. -/
theorem test_loadDos :
    (State.reset.loadDos 0x7EFE [0x11, 0x22, 0x33]).mem = [(0xFEFE, 0x11), (0xFEFF, 0x22)] ∧
      (State.reset.loadDos 0x7F00 [0x11]).mem = [] := by decide

/-- The machine of section 2.12: a trap cell at 0x0085, the stack offset 2. -/
def tapeState : State :=
  let s := start [] { z with s := 0x7F00 } [(0x7F02, 0x55)]
  { s with tags := initTags [0x0085], dev := { s.dev with tapeStackOffset := 2, tape := { Tape.reset with callCount := 14 } } }

theorem test_T1 :
    let s := tapeState.writeByte 0x0085 0x10
    let t := s.writeByte 0x0085 0x10
    s.dev.tape.callCount = 15 ∧ s.dev.tape.capture = [] ∧ s.peek 0x0085 = 0x10 ∧
      t.dev.tape.callCount = 0 ∧ t.dev.tape.tapeState = .leader ∧ t.dev.tape.capture = [0x55] := by decide

/-- The name and the bytes of scenario 5's stream. -/
def hello : List Byte := [0x48, 0x45, 0x4C, 0x4C, 0x4F, 0x20, 0x20, 0x20, 0x02, 0x00, 0x00, 0x00, 0x00, 0x00, 0x00]

/-- The 33 bytes of scenario 5 are a stream of R641. -/
theorem test_scenario_5 :
    tapeStream 2 hello 0xE5 [⟨1, [0x41, 0x42], 0x86⟩] 1 0xFF =
      [0x55, 0x55, 0x3C, 0x00, 0x0F, 0x48, 0x45, 0x4C, 0x4C, 0x4F, 0x20, 0x20, 0x20, 0x02, 0x00, 0x00, 0x00, 0x00, 0x00, 0x00,
       0xE5, 0x55, 0x3C, 0x01, 0x02, 0x41, 0x42, 0x86, 0x55, 0x3C, 0xFF, 0x00, 0xFF] := by decide

/-- Scenario 6: a long press writes the marker, a short one does not. -/
theorem test_scenario_6 :
    let s := start [] z [(0x0071, 0x55), (0xFFFE, 0x80)]
    let s := { s with exe := { s.exe with resetPressedAt := some 1000000 } }
    (s.pollReset true 2500001).peek 0x0071 = 0x00 ∧ (s.pollReset true 2500001).regs.pc = 0x8000 ∧
      (s.pollReset true 2499999).peek 0x0071 = 0x55 ∧ (s.pollReset true 2499999).regs.pc = 0x8000 := by decide

/-- A halted machine makes no step (R434). -/
theorem test_halted : step (State.reset.fatalHalt .vdgDmaMode) = .fault (.halted .vdgDmaMode) := by rfl

/-- A word placed by the interface is the first instruction that runs after reset (log 3). -/
theorem test_withFetchWord :
    afterStep (State.reset.withFetchWord 8 0x4C) (fun t => decide (t.regs.a = 0x01) && decide (t.regs.pc = 0x0001)) = true := by
  decide

/-! ### A state and operands that meet the hypotheses of each statement that has any -/

/-- A start with a stack in Ram. -/
def base : State := start [0x12] { z with s := 0x7F00, u := 0x6000 } []

theorem witness_EncodeThenDecode : (Instr.ldaIdx ⟨.ext .s 0xFFFF, true⟩).wf = true := by decide

theorem witness_DecodeThenEncode :
    decode [0xA6, 0xFF, 0xFF, 0xFF, 0x12] = .ok (.ldaIdx ⟨.ext .s 0xFFFF, true⟩, [0x12]) := by rfl

/-- A five-byte instruction, and one at the top of the address space whose second byte is at 0x0000. -/
theorem witness_StepRunsTheDecodedInstruction :
    (let s := start [0x10, 0xAE, 0x99, 0x12, 0x34] z []
     Ready s ∧ decode (bytesFrom s s.regs.pc maxLength) = .ok (.ldyIdx ⟨.off16 .x 0x1234, true⟩, []) ∧ PlainFrom s s.regs.pc 5) ∧
    (let s := start [] { z with pc := 0xFFFF } [(0xFFFF, 0x86), (0x0000, 0x12)]
     Ready s ∧ decode (bytesFrom s s.regs.pc maxLength) = .ok (.ldaImm 0x12, [0, 0, 0]) ∧ PlainFrom s s.regs.pc 2) := by
  unfold Ready PlainFrom Plain
  exact ⟨⟨by decide, rfl, by decide⟩, by decide, rfl, by decide⟩

theorem witness_FatalEventsHalt :
    (let s := start [0xB7, 0xFF, 0x40] { z with a := 0x20 } []
     s.exe.halted = none ∧ ∃ t, cpuStep s = .next t ∧ t.cpuState ≠ .exception ∧ t.exe.fatal = some .diskUnknownCommand) ∧
    (let s := start [0xA6, 0x87] z []
     Ready s ∧ (∀ m < 2, decode (bytesFrom s s.regs.pc m) = .error .truncated) ∧
       decode (bytesFrom s s.regs.pc 2) = .error (.illegalIndexed 0x87) ∧
       DecodeError.illegalIndexed 0x87 ≠ .truncated ∧ PlainFrom s s.regs.pc 2) := by
  unfold Ready PlainFrom Plain
  refine ⟨⟨rfl, _, rfl, by decide, by decide⟩, by decide, ?_, rfl, by decide, by decide⟩
  intro m hm
  match m, hm with
  | 0, _ => rfl
  | 1, _ => rfl

theorem witness_EveryStepAnswers :
    State.reset.exe.halted = none ∧ (State.reset.fatalHalt .illegalOpcode).exe.halted = some .illegalOpcode := by decide

/-- The invariant holds of a state that is about to store to a PIA, with a transfer in progress, a frame drawn and the
reset button held. -/
theorem witness_StepKeepsInv :
    let s0 := start [0xB7, 0xFF, 0x01] { z with a := 0x3C } []
    let s := { s0 with
      dev := { s0.dev with disk := { Disk.reset with diskState := .read, bufLen := 256, status := 0x03 } }
      exe := { s0.exe with resetPressedAt := some 7 } }
    s.Inv ∧ ∃ t, step s = .next t := by
  refine ⟨⟨?_, ?_, ?_, ?_, ?_, ?_, ?_, ?_⟩, _, rfl⟩
  · unfold State.MemoryOk; decide
  · unfold DiskImage.Ok; decide
  · exact ⟨by decide, by decide, by decide, by decide, by decide, by decide, by decide⟩
  · unfold Pia.Ok; decide
  · unfold Pia.Ok; decide
  · exact ⟨by decide, by decide, by decide, by decide, by decide, by decide⟩
  · trivial
  · exact ⟨by decide, by decide, by decide, by decide, by decide⟩

theorem witness_RomAndTagsNeverChange :
    let s := start [0xB7, 0x80, 0x00] { z with a := 0x12 } [(0x8000, 0x7E)]
    (∃ t, step s = .next t) ∧ (∀ h, s.host.answers.head? = some h → h.loader = []) ∧ s.tagOf 0x8000 = .rom ∧ s.tagOf 0xFFFF = .rom := by
  exact ⟨⟨_, rfl⟩, by rintro h ⟨⟩, by decide, by decide⟩

/-- The third clause: the button is held, an iteration polls and it stays held. -/
theorem witness_OnlyTheseArmNmi :
    (Instr.ldsImm 0x7F00).wf = true ∧ (∃ t, exec (.ldsImm 0x7F00) base = .next t) ∧
    let s0 := pending ⟨false, false, false, true⟩ [0x12] z []
    let s := { s0 with
      exe := { s0.exe with resetPressedAt := some 7 }, host := { s0.host with answers := [⟨false, 9, 9, 0, false, 9, []⟩] } }
    ∃ t, step s = .next t ∧ s.lines.nmiArmed = true ∧ (ReleasesReset s → t.host.answers = s.host.answers) ∧
      t.host.answers ≠ s.host.answers := by
  refine ⟨by decide, ⟨_, rfl⟩, _, rfl, by decide, ?_, by decide⟩
  rintro ⟨-, h, hh, hr⟩
  cases hh
  cases hr

theorem witness_OnlyTheseWriteMasksAndHalfCarry :
    (∃ t, exec (.ldaImm 0x80) base = .next t) ∧ writesCC (.ldaImm 0x80) = false ∧ softwareInterrupt (.ldaImm 0x80) = false ∧
      ¬ computesH (.ldaImm 0x80) := by
  refine ⟨⟨_, rfl⟩, by decide, by decide, ?_⟩
  rintro ⟨k, o, h | h⟩ <;> rcases k with _ | _ <;> rcases o with v | m <;> try (cases h)
  all_goals rcases m with _ | _ | _ <;> cases h

theorem witness_OnlyStoresChangeMemory : (∃ t, exec .mul base = .next t) ∧ ¬ stores .mul := by
  refine ⟨⟨_, rfl⟩, ?_⟩
  rintro (⟨k, m, h⟩ | ⟨k, m, h⟩ | ⟨k, m, h⟩ | ⟨m, h⟩ | ⟨m, h⟩ | ⟨_, h⟩ | ⟨_, h⟩ | ⟨_, h⟩ | ⟨_, h⟩ | h | h | h | ⟨_, h⟩)
  · rcases k with _ | _ <;> rcases m with _ | _ | _ <;> cases h
  · rcases k with _ | _ | _ | _ | _ <;> rcases m with _ | _ | _ <;> cases h
  · rcases k with _ | _ | _ | _ | _ | _ | _ | _ | _ <;> rcases m with _ | _ | _ <;> cases h
  · rcases m with _ | _ | _ <;> cases h
  · rcases m with _ | _ | _ <;> cases h
  all_goals cases h

theorem witness_ReadsAreSafe :
    Plain base 0x7FFF ∧ Plain base 0xFEFF ∧ base.tagOf 0xFF04 = .io none ∧ base.tagOf 0xFFEF = .io none := by
  unfold Plain; decide

theorem witness_WritesChangeOneCell :
    base.tagOf 0x7FFF = .ram ∧ base.tagOf 0x8000 = .rom ∧ base.tagOf 0xFF04 = .io none := by decide

theorem witness_WordsAreBigEndian : RamFrom base 0x7FFE 2 := by unfold RamFrom; decide

/-- The two addresses at the ends of the map, and each end of each clause (the clauses exclude each other). -/
theorem witness_InitialMap :
    (∀ k ∈ [0x7FFF], k < 0x8000) ∧
      ∀ a ∈ [0x0000, 0x7FFF, 0x8000, 0xFEFF, 0xFF00, 0xFF03, 0xFF04, 0xFF1F, 0xFF20, 0xFF23, 0xFF24, 0xFF3F, 0xFF40, 0xFF48,
        0xFF49, 0xFFBF, 0xFFC0, 0xFFDF, 0xFFE0, 0xFFEF, 0xFFF0, 0xFFFF], a < 0x10000 := by decide

theorem witness_EffectiveAddresses :
    PlainFrom base (BitVec.ofInt 16 (indexTarget (.ext .x 0xFFFF) base.regs)) 2 ∧
      PlainFrom base (BitVec.ofInt 16 (indexTarget (.dec2 .s) base.regs)) 2 := by unfold PlainFrom Plain; decide

theorem witness_OperandReads :
    Plain base (base.ea (.dir 0xFF)).1 ∧ PlainFrom base (base.ea (.idx ⟨.dec1 .s, false⟩)).1 2 := by
  unfold PlainFrom Plain; decide

theorem witness_StoreResults :
    base.tagOf (base.ea (.ext 0x7FFF)).1 = .ram ∧ base.tagOf (base.ea (.ext 0x8000)).1 = .rom ∧
      RamFrom base (base.ea (.ext 0x7FFE)).1 2 := by unfold RamFrom; decide

theorem witness_MemoryUnary_ClearAndTest : base.tagOf (base.ea (.idx ⟨.inc1 .s, false⟩)).1 = .ram := by decide

theorem witness_TransferAndExchange :
    Reg.d.is16 = Reg.s.is16 ∧ Reg.a.is16 ≠ Reg.x.is16 ∧ overlaps .x .s = false ∧ overlaps .x .d = false ∧
      overlaps .a .d = true := by decide

theorem witness_PushResults :
    RamFrom base (base.regs.s - BitVec.ofNat 16 (listSize 0xFF)) (listSize 0xFF) ∧
      RamFrom base (base.regs.u - BitVec.ofNat 16 (listSize 0xFF)) (listSize 0xFF) ∧
      RamFrom base (base.regs.s - BitVec.ofNat 16 (listSize 0x00)) (listSize 0x00) := by unfold RamFrom; decide

theorem witness_PullResults :
    PlainFrom base base.regs.s (listSize 0xFF) ∧ PlainFrom base base.regs.u (listSize 0x00) := by
  unfold PlainFrom Plain; decide

theorem witness_JumpsAndCalls :
    RamFrom base ((base.ea (.ext 0x2000)).2.regs.s - 2#16) 2 ∧ RamFrom base (base.regs.s - 2#16) 2 ∧
      PlainFrom base base.regs.s 2 := by unfold RamFrom PlainFrom Plain; decide

/-- The premises inside `Entered`, for a full and a short frame and every vector. -/
theorem witness_SoftwareInterrupts_InterruptEntry :
    RamFrom base (base.regs.s - BitVec.ofNat 16 (entireFrame base.regs).length) (entireFrame base.regs).length ∧
      RamFrom base (base.regs.s - BitVec.ofNat 16 (shortFrame base.regs).length) (shortFrame base.regs).length ∧
      PlainFrom base 0xFFF2 12 := by unfold RamFrom PlainFrom Plain; decide

theorem witness_WaitInstructions : RamFrom base (base.regs.s - 12#16) 12 := by unfold RamFrom; decide

theorem witness_ReturnFromInterrupt :
    (let s := start [] { z with s := 0x7EF4 } [(0x7EF4, 0x80)]
     bit (s.peek s.regs.s) 7 = true ∧ PlainFrom s s.regs.s 12) ∧
    (let s := start [] { z with s := 0x7FFE } [(0x7FFE, 0x7F)]
     bit (s.peek s.regs.s) 7 = false ∧ PlainFrom s s.regs.s 3) := by unfold PlainFrom Plain; decide

theorem witness_DecimalAddition :
    (99 < 100 ∧ (start [] { z with a := 0x99 } []).regs.a = BitVec.ofNat 8 (16 * (99 / 10) + 99 % 10)) ∧
      0 < 100 ∧ (start [] z []).regs.a = BitVec.ofNat 8 (16 * (0 / 10) + 0 % 10) := by decide

theorem witness_InterruptEntry :
    (let s := pending ⟨true, true, true, true⟩ [0x12] base.regs []
     s.exe.suspended = false ∧ s.cpuState = .running ∧ s.acceptable = some .nmi) ∧
    (let s := pending ⟨true, true, true, false⟩ [0x12] base.regs []
     s.exe.suspended = false ∧ s.cpuState = .running ∧ s.acceptable = some .firq) ∧
    (let s := pending ⟨true, true, true, false⟩ [0x12] { base.regs with cc := .ofByte 0x40 } []
     s.exe.suspended = false ∧ s.cpuState = .running ∧ s.acceptable = some .irq) := by decide

theorem witness_InterruptThenReturn :
    let s := pending ⟨false, true, false, false⟩ [0x12] base.regs []
    s.exe.suspended = false ∧ s.cpuState = .running ∧ s.acceptable = some .firq ∧
      RamFrom s (s.regs.s - 12#16) 12 ∧ PlainFrom s Event.firq.vector 2 := by unfold RamFrom PlainFrom Plain; decide

theorem witness_WaitingStates :
    (let s : State := { base with cpuState := .waitingInterrupt }
     s.exe.suspended = false ∧ s.acceptable = none) ∧
    (let s : State := { base with cpuState := .waitingInterrupt, lines := ⟨false, false, true, false⟩ }
     s.exe.suspended = false ∧ s.acceptable = some .irq ∧ PlainFrom s Event.irq.vector 2) ∧
    (let s : State := { base with cpuState := .syncing }
     s.exe.suspended = false ∧ s.cpuState = .syncing) ∧
    (let s : State := { base with cpuState := .exception }
     s.exe.suspended = false ∧ s.cpuState = .exception) := by unfold PlainFrom Plain; decide

theorem witness_PiaRegisters :
    (let s := withPia0 ⟨0, 0, 0, 0, 0x04, 0x04⟩ []
     bit (s.pia .pia0).cra 2 = true ∧ bit (s.pia .pia0).crb 2 = true) ∧
      bit (base.pia .pia0).cra 2 = false ∧ bit (base.pia .pia0).crb 2 = false := by decide

theorem witness_PiaEvents : (withPia0 ⟨0, 0, 0, 0, 0x3F, 0x85⟩ []).dev.pia0.Ok ∧ base.dev.pia1.Ok := by
  unfold Pia.Ok; decide

theorem witness_KeyboardRows :
    let s := withPia0 ⟨0, 0, 0, 0xFF, 0x04, 0x04⟩ []
    1 ≤ 1 ∧ 6 ≤ 6 ∧ bit s.dev.pia0.cra 2 = true ∧ bit s.dev.pia0.ddra 1 = false ∧ bit s.dev.pia0.ddra 6 = false := by decide

theorem witness_SamToggles :
    0 < 16 ∧ 15 < 16 ∧ base.tagOf (BitVec.ofNat 16 (0xFFC0 + 2 * 0 + false.toNat)) = .io (some .sam) ∧
      base.tagOf (BitVec.ofNat 16 (0xFFC0 + 2 * 15 + true.toNat)) = .io (some .sam) := by decide

/-- Two states that differ outside their window, and two windows that differ from their end on. -/
theorem witness_VideoWindow :
    let mem : Nat → Byte := fun _ => 0x55
    let mem' : Nat → Byte := fun i => if i < 6144 then 0x55 else 0xAA
    191 < 192 ∧ 255 < 256 ∧ (∀ i < 6144, mem i = mem' i) ∧ mem 6144 ≠ mem' 6144 ∧ 0x95FF ≤ 0x95FF ∧
    let t := base.poke 0x7FFF 0x12
    t.dev.sam = base.dev.sam ∧ t.dev.piaVideoMode = base.dev.piaVideoMode ∧ t.mem ≠ base.mem ∧
      ∀ i < 6144, t.peek (BitVec.ofNat 16 (videoBase base.dev.sam + i)) = base.peek (BitVec.ofNat 16 (videoBase base.dev.sam + i)) := by
  refine ⟨by decide, by decide, ?_, by decide, by decide, by decide, by decide, by decide, ?_⟩
  · intro i hi
    simp [hi]
  · intro i hi
    have h0 : videoBase base.dev.sam = 0 := by decide
    have hne : (BitVec.ofNat 16 i).toNat ≠ (0x7FFF : Word).toNat := by
      rw [BitVec.toNat_ofNat, show (0x7FFF : Word).toNat = 32767 from rfl]; omega
    rw [h0, Nat.zero_add]
    exact Memory.read_write_other base.mem 0x12 hne

theorem witness_RenderReplacesFrame :
    currentMode (videoMode base.dev.sam) base.dev.piaVideoMode ≠ .uncovered ∧
      currentMode (videoMode base.dev.sam) base.dev.piaVideoMode ≠ .dma := by decide

/-- The last sector of the image of section 2.11. -/
theorem witness_ReadSector_WriteSector :
    let s := (vdkState.writeByte 0xFF41 39).writeByte 0xFF42 18
    (0x88 : Byte).extractLsb' 4 4 = 0x8#4 ∧ (0xA8 : Byte).extractLsb' 4 4 = 0xA#4 ∧ s.dev.image.kind ≠ .none ∧
      diskValid s.dev s.dev.disk.track.toNat 0 s.dev.disk.sector.toNat 256 = true ∧
      ([] : List Byte).length < 256 ∧ (List.replicate 256 (0x11 : Byte)).length = 256 :=
  ⟨by decide, by decide, by decide, by decide, by decide, List.length_replicate⟩

theorem witness_DriveLatch : base.tagOf 0xFF48 = .io (some .wd2797) ∧ base.dev.latchLayout = .dragonDos := by decide

theorem witness_DiskTicks :
    (let s := vdkState.writeByte 0xFF40 0xC0
     s.dev.disk.diskState ≠ .idle) ∧
    (let s := vdkState.writeByte 0xFF40 0x00
     s.dev.disk.diskState = .idle ∧ s.dev.disk.intrqArmed = true ∧ s.dev.disk.idleTicks = 0) ∧ 249 < 250 := by decide

theorem witness_TransferIsBusy :
    let s0 := start [0x12] z []
    let s := { s0 with dev := { s0.dev with disk := { Disk.reset with diskState := .read, bufLen := 256, status := 0x01 } } }
    (s.dev.disk.diskState ≠ .idle → bit s.dev.disk.status 0 = true) ∧ ∃ t, step s = .next t ∧ t.dev.disk.diskState ≠ .idle := by
  exact ⟨by decide, _, rfl, by decide⟩

theorem witness_TapeStream :
    1 ≤ 1 ∧ hello.length < 256 ∧ (∀ d ∈ [DataBlock.mk 0 [] 0x00, ⟨1, [0x41, 0x42], 0x86⟩], d.payload.length < 256) ∧
      (tapeStream 1 hello 0xE5 [DataBlock.mk 0 [] 0x00, ⟨1, [0x41, 0x42], 0x86⟩] 0 0xFF).length ≤ captureLimit := by
  simp [tapeStream, blockBytes, dataBytes, hello, captureLimit]

theorem witness_ResetValues : PlainFrom base 0xFFFE 2 := by unfold PlainFrom Plain; decide

/-- The longest short press and the shortest long one, and one over which the clock wraps. -/
theorem witness_ResetButton :
    base.exe.resetPressedAt = none ∧
    (let s := { base with exe := { base.exe with resetPressedAt := some 0xFFFFFFFF } }
     s.exe.resetPressedAt = some (0xFFFFFFFF : BitVec 32)) ∧
    ((1499998 : BitVec 32).toNat + 2 ^ 32 - (0xFFFFFFFF : BitVec 32).toNat) % 2 ^ 32 < 1500000 ∧
    1500000 ≤ ((1499999 : BitVec 32).toNat + 2 ^ 32 - (0xFFFFFFFF : BitVec 32).toNat) % 2 ^ 32 := by decide


end Sys2Proof.Tests
end

/-! ## Tags, parameters and Rom cells (spec/00_scope.md R10, spec/20_memory.md R81, R86)

What no part of a step but the loader can change, kept by every operation of the model, by every instruction, by the CPU
step and by the polls. -/

namespace Sys2Proof.Machine

/-! ### What is fixed -/

/-- What only the init phase sets: the tags and the two parameters that State holds (R10, R81; logs 9, 11). -/
structure Setup where
  tags : List TagRange
  tapeStackOffset : Word
  latchLayout : LatchLayout

/-- The setup of a machine. -/
def State.setup (s : State) : Setup := ⟨s.tags, s.dev.tapeStackOffset, s.dev.latchLayout⟩

/-- The byte of the cell at `a` if it is tagged Rom. -/
def State.romByte (a : Word) (s : State) : Option Byte := if s.tagOf a = .rom then some (s.peek a) else none

/-- What a CPU step cannot change, seen from one cell: the setup, the host's answers to come, and the cell's byte if it is
tagged Rom. That an operation keeps it for every cell is one equation, by which `simp` walks through a composite. -/
structure Fixed where
  setup : Setup
  answers : List HostAnswers
  romByte : Option Byte

/-- The fixed part of a machine, seen from the cell at `a`. -/
def State.fixedAt (a : Word) (s : State) : Fixed := ⟨s.setup, s.host.answers, s.romByte a⟩

theorem State.setup_of_fixedAt {a : Word} {s t : State} (h : t.fixedAt a = s.fixedAt a) : t.setup = s.setup :=
  congrArg Fixed.setup h

theorem State.answers_of_fixedAt {a : Word} {s t : State} (h : t.fixedAt a = s.fixedAt a) :
    t.host.answers = s.host.answers :=
  congrArg Fixed.answers h

theorem State.romByte_of_fixedAt {a : Word} {s t : State} (h : t.fixedAt a = s.fixedAt a) : t.romByte a = s.romByte a :=
  congrArg Fixed.romByte h

/-- The same setup and the same Rom byte: a cell tagged Rom reads as before. -/
theorem State.peek_eq_of_romByte {a : Word} {s t : State} (hset : t.setup = s.setup) (hrom : t.romByte a = s.romByte a)
    (ha : s.tagOf a = .rom) : t.peek a = s.peek a := by
  have htags : t.tags = s.tags := congrArg Setup.tags hset
  have hat : t.tagOf a = .rom := by rw [State.tagOf, htags]; exact ha
  simpa [State.romByte, ha, hat] using hrom

/-! ### Updates of one part of the state -/

section
variable (a : Word) (s : State)

@[simp] theorem State.mapRegs_fixedAt (f : Regs → Regs) : (s.mapRegs f).fixedAt a = s.fixedAt a := rfl
@[simp] theorem State.setCC_fixedAt (cc : CC) : (s.setCC cc).fixedAt a = s.fixedAt a := rfl
@[simp] theorem State.setPC_fixedAt (pc : Word) : (s.setPC pc).fixedAt a = s.fixedAt a := rfl
@[simp] theorem State.setE_fixedAt (e : Bool) : (s.setE e).fixedAt a = s.fixedAt a := rfl
@[simp] theorem State.call_fixedAt (c : HostCall) : (s.call c).fixedAt a = s.fixedAt a := rfl
@[simp] theorem State.draw_fixedAt : s.draw.2.fixedAt a = s.fixedAt a := rfl
@[simp] theorem State.requestNmi_fixedAt : s.requestNmi.fixedAt a = s.fixedAt a := rfl
@[simp] theorem State.mapDisk_fixedAt (f : Disk → Disk) : (s.mapDisk f).fixedAt a = s.fixedAt a := rfl
@[simp] theorem State.mapImage_fixedAt (f : Memory → Memory) : (s.mapImage f).fixedAt a = s.fixedAt a := rfl
@[simp] theorem State.mapExe_fixedAt (f : Executive → Executive) : (s.mapExe f).fixedAt a = s.fixedAt a := rfl
@[simp] theorem State.setFrame_fixedAt (f : Frame) : (s.setFrame f).fixedAt a = s.fixedAt a := rfl
@[simp] theorem State.recordBytes_fixedAt (bs : List Byte) : (s.recordBytes bs).fixedAt a = s.fixedAt a := rfl
@[simp] theorem State.acknowledge_fixedAt (e : Event) : (s.acknowledge e).fixedAt a = s.fixedAt a := rfl
@[simp] theorem State.raiseIllegal_fixedAt : s.raiseIllegal.fixedAt a = s.fixedAt a := rfl

theorem State.cpuState_fixedAt (c : CpuState) : ({ s with cpuState := c } : State).fixedAt a = s.fixedAt a := rfl

@[simp] theorem State.writeReg_fixedAt (k : Reg) (v : Word) : (s.writeReg k v).fixedAt a = s.fixedAt a := by
  rw [State.writeReg_eq]
  rfl

@[simp] theorem State.setPia_fixedAt (id : PiaId) (p : Pia) : (s.setPia id p).fixedAt a = s.fixedAt a := by
  cases id <;> rfl

/-- A change of the devices that keeps the two parameters. -/
theorem State.mapDev_fixedAt {f : Devices → Devices} (hoff : (f s.dev).tapeStackOffset = s.dev.tapeStackOffset)
    (hlay : (f s.dev).latchLayout = s.dev.latchLayout) : (s.mapDev f).fixedAt a = s.fixedAt a := by
  have hset : (s.mapDev f).setup = s.setup := by simp [State.setup, hoff, hlay]
  rw [State.fixedAt, hset]
  rfl

/-- A poke into a cell that is not tagged Rom. -/
theorem State.poke_fixedAt {b : Word} (v : Byte) (hb : s.tagOf b ≠ .rom) : (s.poke b v).fixedAt a = s.fixedAt a := by
  have hrom : (s.poke b v).romByte a = s.romByte a := by
    unfold State.romByte
    rw [State.tagOf_poke]
    split
    · next ha =>
      have hab : a ≠ b := fun h => hb (h ▸ ha)
      rw [State.peek_poke, if_neg hab]
    · rfl
  rw [State.fixedAt, hrom]
  rfl

/-! ### The PIAs -/

@[simp] theorem State.piaNotify_fixedAt (id : PiaId) (before en : Bool) :
    (s.piaNotify id before en).fixedAt a = s.fixedAt a := by
  rcases s.piaNotify_cases id before en with h | h <;> rw [h]
  cases id <;> rfl

@[simp] theorem State.cb1Event_fixedAt (id : PiaId) : (s.cb1Event id).fixedAt a = s.fixedAt a := by
  simp [State.cb1Event]

@[simp] theorem State.cx2Level_fixedAt (cr : Byte) : (s.cx2Level cr).2.fixedAt a = s.fixedAt a := by
  unfold State.cx2Level
  split <;> rfl

@[simp] theorem State.reportMux_fixedAt : s.reportMux.fixedAt a = s.fixedAt a := by
  simp [State.reportMux]

@[simp] theorem State.afterCra_fixedAt (id : PiaId) : (s.afterCra id).fixedAt a = s.fixedAt a := by
  cases id <;> simp [State.afterCra, State.reportMotor]

@[simp] theorem State.afterCrb_fixedAt (id : PiaId) : (s.afterCrb id).fixedAt a = s.fixedAt a := by
  cases id <;> simp [State.afterCrb]

@[simp] theorem State.afterOra_fixedAt (id : PiaId) : (s.afterOra id).fixedAt a = s.fixedAt a := by
  cases id <;> rfl

@[simp] theorem State.afterOrb_fixedAt (id : PiaId) (v : Byte) : (s.afterOrb id v).fixedAt a = s.fixedAt a := by
  cases id <;> rfl

@[simp] theorem State.readPia_fixedAt (id : PiaId) (off : BitVec 2) : (s.readPia id off).2.fixedAt a = s.fixedAt a := by
  rcases s.readPia_state id off with h | h | h <;> rw [h]
  · cases id <;> rfl
  · cases id <;> rfl

@[simp] theorem State.writePia_fixedAt (id : PiaId) (off : BitVec 2) (v : Byte) :
    (s.writePia id off v).fixedAt a = s.fixedAt a := by
  unfold State.writePia
  rw [State.piaNotify_fixedAt]
  split
  · split <;> simp
  · simp
  · split <;> simp
  · simp

/-! ### The disk controller and the tape trap -/

theorem State.withImage_fixedAt {f : State → State} (h : (f s).fixedAt a = s.fixedAt a) :
    (s.withImage f).fixedAt a = s.fixedAt a := by
  unfold State.withImage
  split
  · rfl
  · exact h

theorem State.diskReadSector_fixedAt : s.diskReadSector.fixedAt a = s.fixedAt a := by
  unfold State.diskReadSector
  dsimp only
  split <;> rfl

theorem State.diskWriteSector_fixedAt : s.diskWriteSector.fixedAt a = s.fixedAt a := by
  unfold State.diskWriteSector
  dsimp only
  split <;> rfl

@[simp] theorem State.diskCommand_fixedAt (v : Byte) : (s.diskCommand v).fixedAt a = s.fixedAt a := by
  unfold State.diskCommand
  rw [← State.mapDisk_fixedAt a s fun d => { d with cmd := v }]
  dsimp only
  split
  · exact State.withImage_fixedAt _ _ rfl
  · exact State.withImage_fixedAt _ _ rfl
  · exact State.withImage_fixedAt _ _ (State.diskReadSector_fixedAt _ _)
  · exact State.withImage_fixedAt _ _ (State.diskWriteSector_fixedAt _ _)
  · exact State.withImage_fixedAt _ _ rfl
  · rfl
  · exact State.withImage_fixedAt _ _ rfl
  · rfl

@[simp] theorem State.finishWriteSector_fixedAt : s.finishWriteSector.fixedAt a = s.fixedAt a := by
  unfold State.finishWriteSector
  dsimp only
  split
  · rw [State.mapDisk_fixedAt, State.mapImage_fixedAt]
  · rfl

@[simp] theorem State.finishWriteTrack_fixedAt : s.finishWriteTrack.fixedAt a = s.fixedAt a := by
  unfold State.finishWriteTrack
  dsimp only
  split
  · rw [State.mapDisk_fixedAt, State.mapImage_fixedAt]
  · rfl

@[simp] theorem State.diskWriteData_fixedAt (v : Byte) : (s.diskWriteData v).fixedAt a = s.fixedAt a := by
  unfold State.diskWriteData
  dsimp only
  split
  · split
    · split <;> simp
    · rfl
  · rfl

@[simp] theorem State.writeDisk_fixedAt (off : Nat) (v : Byte) : (s.writeDisk off v).fixedAt a = s.fixedAt a := by
  unfold State.writeDisk
  split
  · simp
  · rfl
  · rfl
  · simp
  · rfl
  · rfl

@[simp] theorem State.diskTick_fixedAt : s.diskTick.fixedAt a = s.fixedAt a := by
  unfold State.diskTick
  dsimp only
  split
  · simp
  · split
    · split
      · split <;> simp
      · simp
    · rfl

@[simp] theorem State.feedTape_fixedAt (b : Byte) : (s.feedTape b).fixedAt a = s.fixedAt a := by
  unfold State.feedTape
  dsimp only
  split <;> rfl

/-! ### The bus -/

@[simp] theorem State.readByte_fixedAt (b : Word) : (s.readByte b).2.fixedAt a = s.fixedAt a := by
  rcases s.readByte_state b with h | ⟨_, _, h⟩ | ⟨_, h⟩ | h <;> rw [h] <;> simp

@[simp] theorem State.readWord_fixedAt (b : Word) : (s.readWord b).2.fixedAt a = s.fixedAt a := by
  simp [State.readWord]

theorem State.tapeWrite_fixedAt {b : Word} (v : Byte) (hb : s.tagOf b ≠ .rom) :
    (s.tapeWrite b v).fixedAt a = s.fixedAt a := by
  rw [← State.poke_fixedAt a s v hb]
  unfold State.tapeWrite
  dsimp only
  split
  · rw [State.feedTape_fixedAt, State.readByte_fixedAt]
    rfl
  · rfl

/-- A bus write changes a Ram cell or a trap cell, or a device, and never a cell tagged Rom (R86). -/
@[simp] theorem State.writeByte_fixedAt (b : Word) (v : Byte) : (s.writeByte b v).fixedAt a = s.fixedAt a := by
  unfold State.writeByte
  split
  · next hb => exact State.poke_fixedAt a s v (by simp [hb])
  · rfl
  · rfl
  · next hb => exact State.tapeWrite_fixedAt a s v (by simp [hb])
  · simp
  · simp
  · simp
  · exact State.mapDev_fixedAt a s rfl rfl

@[simp] theorem State.writeWord_fixedAt (b v : Word) : (s.writeWord b v).fixedAt a = s.fixedAt a := by
  simp [State.writeWord]

/-! ### Stacks and exceptions -/

@[simp] theorem State.push8_fixedAt (k : StackReg) (v : Byte) : (s.push8 k v).fixedAt a = s.fixedAt a := by
  simp [State.push8]

@[simp] theorem State.push16_fixedAt (k : StackReg) (v : Word) : (s.push16 k v).fixedAt a = s.fixedAt a := by
  simp [State.push16]

@[simp] theorem State.pull8_fixedAt (k : StackReg) : (s.pull8 k).2.fixedAt a = s.fixedAt a := by
  simp [State.pull8]

@[simp] theorem State.pull16_fixedAt (k : StackReg) : (s.pull16 k).2.fixedAt a = s.fixedAt a := by
  simp [State.pull16]

@[simp] theorem State.pushEntire_fixedAt : s.pushEntire.fixedAt a = s.fixedAt a := by
  simp [State.pushEntire]

@[simp] theorem State.pushShort_fixedAt : s.pushShort.fixedAt a = s.fixedAt a := by
  simp [State.pushShort]

@[simp] theorem State.vectorTo_fixedAt (e : Event) : (s.vectorTo e).fixedAt a = s.fixedAt a := by
  simp [State.vectorTo]

@[simp] theorem State.takeException_fixedAt (e : Event) : (s.takeException e).fixedAt a = s.fixedAt a := by
  unfold State.takeException
  rw [State.vectorTo_fixedAt]
  split <;> simp

@[simp] theorem State.waitForInterrupt_fixedAt (mask : CC) : (s.waitForInterrupt mask).fixedAt a = s.fixedAt a := by
  unfold State.waitForInterrupt
  rw [State.cpuState_fixedAt, State.pushEntire_fixedAt, State.setE_fixedAt, State.setCC_fixedAt]

@[simp] theorem State.returnFromInterrupt_fixedAt : s.returnFromInterrupt.fixedAt a = s.fixedAt a := by
  unfold State.returnFromInterrupt
  rw [State.setPC_fixedAt, State.pull16_fixedAt]
  split <;> simp

/-! ### Operands and the shapes of the instructions -/

@[simp] theorem State.indexedEA_fixedAt (ix : Indexed) : (s.indexedEA ix).2.fixedAt a = s.fixedAt a := by
  unfold State.indexedEA
  dsimp only
  split
  · rw [State.readWord_fixedAt]
    rfl
  · rfl

@[simp] theorem State.ea_fixedAt (m : MemOperand) : (s.ea m).2.fixedAt a = s.fixedAt a := by
  cases m <;> simp [State.ea]

@[simp] theorem State.operand8_fixedAt (o : Operand8) : (s.operand8 o).2.fixedAt a = s.fixedAt a := by
  cases o <;> simp [State.operand8]

@[simp] theorem State.operand16_fixedAt (o : Operand16) : (s.operand16 o).2.fixedAt a = s.fixedAt a := by
  cases o <;> simp [State.operand16]

theorem State.when_fixedAt {p : Bool} {f : State → State} (h : ∀ u : State, (f u).fixedAt a = u.fixedAt a) :
    (s.when p f).fixedAt a = s.fixedAt a := by
  cases p
  · rfl
  · exact h s

@[simp] theorem State.pushList_fixedAt (k : StackReg) (pb : Byte) : (s.pushList k pb).fixedAt a = s.fixedAt a := by
  simp [State.pushList, State.when_fixedAt]

@[simp] theorem State.pullList_fixedAt (k : StackReg) (pb : Byte) : (s.pullList k pb).fixedAt a = s.fixedAt a := by
  simp [State.pullList, State.when_fixedAt, State.pullReg8, State.pullReg16]

end

/-! ### What an instruction can do -/

/-- The states an instruction can lead to from `s`, one constructor per shape of a meaning. -/
inductive State.Effect (s : State) : State → Prop where
  | accOp (f : Byte → Byte → CC → Byte × CC) (k : Acc) (o : Operand8) : s.Effect (s.accOp f k o)
  | accTest (f : Byte → Byte → CC → Byte × CC) (k : Acc) (o : Operand8) : s.Effect (s.accTest f k o)
  | accUnary (f : Byte → CC → Byte × CC) (k : Acc) : s.Effect (s.accUnary f k)
  | rmw (f : Byte → CC → Byte × CC) (m : MemOperand) : s.Effect (s.rmw f m)
  | load8 (k : Acc) (o : Operand8) : s.Effect (s.load8 k o)
  | load16 (k : Reg) (o : Operand16) : s.Effect (s.load16 k o)
  | store8 (k : Acc) (m : MemOperand) : s.Effect (s.store8 k m)
  | store16 (k : Reg) (m : MemOperand) : s.Effect (s.store16 k m)
  | leaZ (k : Reg) (ix : Indexed) : s.Effect (s.leaZ k ix)
  | leaQuiet (k : Reg) (ix : Indexed) : s.Effect (s.leaQuiet k ix)
  | dOp (f : Word → Word → CC → Word × CC) (o : Operand16) : s.Effect (s.dOp f o)
  | cmp16 (k : Reg) (o : Operand16) : s.Effect (s.cmp16 k o)
  | clearMem (m : MemOperand) : s.Effect (s.clearMem m)
  | testMem (m : MemOperand) : s.Effect (s.testMem m)
  | clearAcc (k : Acc) : s.Effect (s.clearAcc k)
  | testAcc (k : Acc) : s.Effect (s.testAcc k)
  | pushList (k : StackReg) (pb : Byte) : s.Effect (s.pushList k pb)
  | pullList (k : StackReg) (pb : Byte) : s.Effect (s.pullList k pb)
  | branch (taken : Bool) (off : Word) : s.Effect (s.branch taken off)
  | branchSub (off : Word) : s.Effect (s.branchSub off)
  | jump (m : MemOperand) : s.Effect (s.jump m)
  | jumpSub (m : MemOperand) : s.Effect (s.jumpSub m)
  | returnSub : s.Effect s.returnSub
  | transfer (src dst : Reg) : s.Effect (s.transfer src dst)
  | exchange (r1 r2 : Reg) : s.Effect (s.exchange r1 r2)
  | setCC (cc : CC) : s.Effect (s.setCC cc)
  | mapRegs (f : Regs → Regs) : s.Effect (s.mapRegs f)
  | nop : s.Effect s
  | sync : s.Effect { s with cpuState := .syncing }
  | waitForInterrupt (mask : CC) : s.Effect (s.waitForInterrupt mask)
  | takeException (e : Event) : s.Effect (s.takeException e)
  | returnFromInterrupt : s.Effect s.returnFromInterrupt

/-- Every instruction completes, and in one of the shapes. -/
theorem exec_effect (i : Instr) (s : State) : ∃ t, exec i s = .next t ∧ s.Effect t := by
  cases i <;> exact ⟨_, rfl, by with_reducible constructor⟩

/-- Every shape keeps the fixed part. -/
theorem State.Effect.fixedAt {s t : State} (h : s.Effect t) (a : Word) : t.fixedAt a = s.fixedAt a := by
  cases h with
  | accOp f k o => simp [State.accOp]
  | accTest f k o => simp [State.accTest]
  | accUnary f k => simp [State.accUnary]
  | rmw f m => simp [State.rmw]
  | load8 k o => simp [State.load8]
  | load16 k o => simp [State.load16]
  | store8 k m => simp [State.store8]
  | store16 k m => simp [State.store16]
  | leaZ k ix => simp [State.leaZ]
  | leaQuiet k ix => simp [State.leaQuiet]
  | dOp f o => simp [State.dOp]
  | cmp16 k o => simp [State.cmp16]
  | clearMem m => simp [State.clearMem]
  | testMem m => simp [State.testMem]
  | clearAcc k => simp [State.clearAcc]
  | testAcc k => simp [State.testAcc]
  | pushList k pb => simp
  | pullList k pb => simp
  | branch taken off => simp [State.branch_eq]
  | branchSub off => simp [State.branchSub]
  | jump m => simp [State.jump]
  | jumpSub m => simp [State.jumpSub]
  | returnSub => simp [State.returnSub]
  | transfer src dst => unfold State.transfer; split <;> simp
  | exchange r1 r2 => unfold State.exchange; split <;> simp
  | setCC cc => simp
  | mapRegs f => simp
  | nop => rfl
  | sync => rfl
  | waitForInterrupt mask => simp
  | takeException e => simp
  | returnFromInterrupt => simp

theorem exec_fixedAt {i : Instr} {s t : State} (h : exec i s = .next t) (a : Word) : t.fixedAt a = s.fixedAt a := by
  obtain ⟨u, hu, heff⟩ := exec_effect i s
  obtain rfl : u = t := by simpa [hu] using h
  exact heff.fixedAt a

/-! ### The CPU step -/

@[simp] theorem State.fetch8_fixedAt (a : Word) (s : State) : s.fetch8.2.fixedAt a = s.fixedAt a := by
  simp [State.fetch8]

theorem State.fetchLoop_fixedAt (a : Word) (fuel : Nat) (seen : List Byte) (s : State) :
    (s.fetchLoop fuel seen).2.fixedAt a = s.fixedAt a := by
  induction fuel generalizing seen s with
  | zero => rfl
  | succ n ih =>
    unfold State.fetchLoop
    dsimp only
    split
    · simp
    · rw [ih, State.fetch8_fixedAt]
    · simp
    · simp
    · simp

theorem State.fetch_fixedAt (a : Word) (s : State) : s.fetch.2.fixedAt a = s.fixedAt a :=
  State.fetchLoop_fixedAt a maxLength [] { s with lastPc := s.regs.pc }

theorem executeNext_fixedAt {s t : State} (h : executeNext s = .next t) (a : Word) : t.fixedAt a = s.fixedAt a := by
  rw [← State.fetch_fixedAt a s]
  unfold executeNext at h
  dsimp only at h
  split at h
  · exact exec_fixedAt h a
  · cases h
    simp

/-- A CPU step changes no tag, no parameter, no Rom cell, and takes no answer of the host. -/
theorem cpuStep_fixedAt {s t : State} (h : cpuStep s = .next t) (a : Word) : t.fixedAt a = s.fixedAt a := by
  unfold cpuStep at h
  split at h
  · cases h
    rfl
  · split at h
    · cases h
      rfl
    · exact executeNext_fixedAt h a
    · cases h
      simp [State.enterInterrupt]
    · cases h
      rw [State.wakeFromWait, State.cpuState_fixedAt, State.vectorTo_fixedAt, State.acknowledge_fixedAt]
    · cases h
      rfl

/-! ### The polls -/

section
variable (a : Word) (s : State)

@[simp] theorem State.fatalHalt_fixedAt (code : FatalCode) : (s.fatalHalt code).fixedAt a = s.fixedAt a := rfl

@[simp] theorem State.resetCore_fixedAt (kind : ResetKind) : (s.resetCore kind).fixedAt a = s.fixedAt a := by
  cases kind <;> rfl

@[simp] theorem State.executiveReset_fixedAt (kind : ResetKind) : (s.executiveReset kind).fixedAt a = s.fixedAt a := by
  simp [State.executiveReset]

@[simp] theorem State.pollReset_fixedAt (b : Bool) (now : BitVec 32) : (s.pollReset b now).fixedAt a = s.fixedAt a := by
  unfold State.pollReset
  split
  · split <;> rfl
  · split
    · dsimp only
      split <;> simp
    · rfl

@[simp] theorem State.pollTick_fixedAt (now : BitVec 32) : (s.pollTick now).fixedAt a = s.fixedAt a := by
  unfold State.pollTick
  split <;> simp

theorem Devices.scan_tapeStackOffset (sc : Byte) (d : Devices) : (d.scan sc).tapeStackOffset = d.tapeStackOffset := by
  unfold Devices.scan
  split
  · rfl
  · split <;> rfl

theorem Devices.scan_latchLayout (sc : Byte) (d : Devices) : (d.scan sc).latchLayout = d.latchLayout := by
  unfold Devices.scan
  split
  · rfl
  · split <;> rfl

@[simp] theorem State.suspend_fixedAt : s.suspend.fixedAt a = s.fixedAt a := by
  unfold State.suspend
  dsimp only
  split <;> rfl

@[simp] theorem State.pollKeyboard_fixedAt (sc : Byte) : (s.pollKeyboard sc).fixedAt a = s.fixedAt a := by
  have hscan : (s.mapDev (Devices.scan sc)).fixedAt a = s.fixedAt a :=
    State.mapDev_fixedAt a s (Devices.scan_tapeStackOffset sc s.dev) (Devices.scan_latchLayout sc s.dev)
  unfold State.pollKeyboard
  dsimp only
  split
  · rw [State.suspend_fixedAt, hscan]
  · exact hscan

@[simp] theorem State.pollCartridge_fixedAt (edge : Bool) : (s.pollCartridge edge).fixedAt a = s.fixedAt a := by
  unfold State.pollCartridge
  split <;> simp

@[simp] theorem State.drawFrame_fixedAt : s.drawFrame.fixedAt a = s.fixedAt a := by
  simp [State.drawFrame]

@[simp] theorem State.render_fixedAt : s.render.fixedAt a = s.fixedAt a := by
  unfold State.render
  split
  · simp
  · split
    · rfl
    · simp
  · simp
  · simp
  · simp
  · simp

@[simp] theorem State.pollFrame_fixedAt (now : BitVec 32) : (s.pollFrame now).fixedAt a = s.fixedAt a := by
  unfold State.pollFrame
  split
  · dsimp only
    split <;> simp
  · rfl

/-- The polls before the loader keep the fixed part. -/
theorem State.poll_eq_runLoader (h : HostAnswers) :
    ∃ u : State, s.poll h = u.runLoader h.loader ∧ ∀ a, u.fixedAt a = s.fixedAt a :=
  ⟨_, rfl, fun a => by simp⟩

end

/-! ### The loader -/

/-- The loader writes memory, mounts images and resumes the CPU: the setup stays (R658, R681). -/
theorem State.loaderEvent_setup (ev : LoaderEvent) (s : State) : (s.loaderEvent ev).setup = s.setup := by
  cases ev with
  | mountImage kind rawSides bytes => rfl
  | loadCartridge bytes => rw [State.loaderEvent, State.loadCartridge_eq]; rfl
  | loadBasic bytes => rw [State.loaderEvent, State.loadBasic_eq]; rfl
  | loadDos offset bytes => rw [State.loaderEvent, State.loadDos_eq]; rfl
  | resume => rfl

theorem State.runLoader_setup (evs : List LoaderEvent) (s : State) : (s.runLoader evs).setup = s.setup := by
  induction evs generalizing s with
  | nil => rfl
  | cons ev rest ih =>
    unfold State.runLoader
    split
    · rw [ih, State.loaderEvent_setup]
    · rfl

/-! ### The iteration after the CPU step -/

/-- What the rest of an iteration can do to the fixed part: nothing, or take the first answer of the host and run the loader
on a machine that differs from the one before in nothing fixed but that answer. -/
theorem State.finishIteration_cases (s : State) :
    (∀ a, s.finishIteration.fixedAt a = s.fixedAt a) ∨
      ∃ (h : HostAnswers) (u : State), s.host.answers.head? = some h ∧ s.finishIteration = u.runLoader h.loader ∧
        u.setup = s.setup ∧ ∀ a, u.romByte a = s.romByte a := by
  unfold State.finishIteration
  split
  · exact .inl fun a => State.fatalHalt_fixedAt a s _
  · split
    · exact .inl fun a => rfl
    · next h rest hans =>
      obtain ⟨u, hu, hfix⟩ := State.poll_eq_runLoader { s with host := { s.host with answers := rest } } h
      have hset := State.setup_of_fixedAt (hfix 0)
      have hrom := fun a => State.romByte_of_fixedAt (hfix a)
      exact .inr ⟨h, u, by simp [hans], hu, hset, hrom⟩

theorem State.finishIteration_setup (s : State) : s.finishIteration.setup = s.setup := by
  rcases s.finishIteration_cases with hfix | ⟨h, u, -, hrun, hset, -⟩
  · exact State.setup_of_fixedAt (hfix 0)
  · rw [hrun, State.runLoader_setup, hset]

/-- With no loader event in the answer taken, no Rom cell changes. -/
theorem State.finishIteration_romByte {s : State} (hquiet : ∀ h, s.host.answers.head? = some h → h.loader = [])
    (a : Word) : s.finishIteration.romByte a = s.romByte a := by
  rcases s.finishIteration_cases with hfix | ⟨h, u, hhead, hrun, -, hrom⟩
  · exact State.romByte_of_fixedAt (hfix a)
  · rw [hrun, hquiet h hhead]
    exact hrom a

/-- A step that answers a next state is a CPU step and the rest of the iteration. -/
theorem step_eq_next {s t : State} (h : step s = .next t) : ∃ u, cpuStep s = .next u ∧ t = u.finishIteration := by
  unfold step at h
  split at h
  · cases h
  · split at h
    · next u hu =>
      cases h
      exact ⟨u, hu, rfl⟩
    · cases h
    · cases h

/-- Settles O10: the CPU step and the polls keep the fixed part, and the loader keeps the setup. -/
theorem romAndTagsNeverChange : Obligations.RomAndTagsNeverChange := by
  intro s t hstep
  obtain ⟨u, hcpu, rfl⟩ := step_eq_next hstep
  have hfix : ∀ a, u.fixedAt a = s.fixedAt a := cpuStep_fixedAt hcpu
  have hset : u.finishIteration.setup = s.setup :=
    u.finishIteration_setup.trans (State.setup_of_fixedAt (hfix 0))
  refine ⟨congrArg Setup.tags hset, congrArg Setup.tapeStackOffset hset, congrArg Setup.latchLayout hset, ?_⟩
  intro hquiet a ha
  rw [← State.answers_of_fixedAt (hfix 0)] at hquiet
  have hrom : u.finishIteration.romByte a = s.romByte a :=
    (State.finishIteration_romByte hquiet a).trans (State.romByte_of_fixedAt (hfix a))
  exact State.peek_eq_of_romByte hset hrom ha

end Sys2Proof.Machine

/-! ## The bus and the address map (spec/20_memory.md)

What a read may change, what a write may change, and the map that the init phase makes. -/

namespace Sys2Proof.Reference
open Sys2Proof.Machine

/-! ### What reading can change, as a relation -/

theorem FlagsCleared.refl (p : Pia) : FlagsCleared p p := ⟨rfl, .inl rfl, .inl rfl⟩

theorem FlagsCleared.clear_cra (p : Pia) : FlagsCleared p { p with cra := p.cra &&& 0x3F#8 } :=
  ⟨rfl, .inr rfl, .inl rfl⟩

theorem FlagsCleared.clear_crb (p : Pia) : FlagsCleared p { p with crb := p.crb &&& 0x3F#8 } :=
  ⟨rfl, .inl rfl, .inr rfl⟩

theorem TransferAdvanced.refl (d : Disk) : TransferAdvanced d d := rfl

theorem ReadOnly.refl (s : State) : ReadOnly s s :=
  ⟨rfl, rfl, rfl, rfl, rfl, rfl, rfl, rfl, rfl, .refl _, .refl _, .refl _, rfl⟩

end Sys2Proof.Reference

namespace Sys2Proof.Machine
open Sys2Proof.Reference

/-! ### Reads (R85, R87, R94) -/

theorem State.draw_readOnly (s : State) : ReadOnly s s.draw.2 :=
  ⟨rfl, rfl, rfl, rfl, rfl, rfl, rfl, rfl, rfl, .refl _, .refl _, .refl _, rfl⟩

theorem State.mapDisk_readOnly {s : State} {d : Disk} (hd : TransferAdvanced s.dev.disk d) :
    ReadOnly s (s.mapDisk fun _ => d) :=
  ⟨rfl, rfl, rfl, rfl, rfl, rfl, rfl, rfl, rfl, .refl _, .refl _, hd, rfl⟩

/-- A data read of a PIA takes a draw and clears flags of the PIA read. -/
theorem State.draw_setPia_readOnly (id : PiaId) {s : State} {p : Pia} (hp : FlagsCleared (s.pia id) p) :
    ReadOnly s (s.draw.2.setPia id p) := by
  cases id
  · exact ⟨rfl, rfl, rfl, rfl, rfl, rfl, rfl, rfl, rfl, hp, .refl _, .refl _, rfl⟩
  · exact ⟨rfl, rfl, rfl, rfl, rfl, rfl, rfl, rfl, rfl, .refl _, hp, .refl _, rfl⟩

@[simp] theorem State.pinsA_state (id : PiaId) (s : State) : (s.pinsA id).2 = s.draw.2 := by
  cases id <;> rfl

@[simp] theorem State.pinsB_state (s : State) : s.pinsB.2 = s.draw.2 := rfl

theorem State.readPia_readOnly (id : PiaId) (off : BitVec 2) (s : State) : ReadOnly s (s.readPia id off).2 := by
  rcases s.readPia_state id off with h | h | h <;> rw [h]
  · exact .refl s
  · rw [State.pinsA_state]
    exact State.draw_setPia_readOnly id (.clear_cra _)
  · rw [State.pinsB_state]
    exact State.draw_setPia_readOnly id (.clear_crb _)

/-- A read of DATA during a transfer to the CPU advances it, and completes it at its last byte (R592). -/
theorem State.diskReadData_readOnly (s : State) : ReadOnly s s.diskReadData.2 := by
  unfold State.diskReadData
  dsimp only
  split
  · refine State.mapDisk_readOnly ?_
    split <;> rfl
  · exact .refl s

theorem State.readDisk_readOnly (off : Nat) (s : State) : ReadOnly s (s.readDisk off).2 := by
  unfold State.readDisk
  split
  · exact .refl s
  · exact .refl s
  · exact .refl s
  · exact s.diskReadData_readOnly
  · exact .refl s

/-- A bus read, by the tag of its cell. -/
theorem State.readByte_readOnly (a : Word) (s : State) : ReadOnly s (s.readByte a).2 := by
  unfold State.readByte
  split
  · exact .refl s
  · exact .refl s
  · exact .refl s
  · exact .refl s
  · exact s.readPia_readOnly _ _
  · exact s.readPia_readOnly _ _
  · exact s.readDisk_readOnly _
  · exact s.draw_readOnly

/-- A read of a cell without a handler gives 0x00, and nothing changes (R87). -/
theorem State.readByte_unhandled {a : Word} {s : State} (h : s.tagOf a = .io none) : s.readByte a = (0x00, s) := by
  unfold State.readByte
  rw [h]

/-- Settles O14: the read of every tag is read-only, and those of the tags without a device change nothing. -/
theorem readsAreSafe : Obligations.ReadsAreSafe :=
  fun a s => ⟨s.readByte_readOnly a, State.readByte_plain, State.readByte_unhandled⟩

/-! ### Writes (R86, R87, R99) -/

/-- A write to a cell without a handler is nothing (R87). -/
theorem State.writeByte_unhandled {a : Word} (v : Byte) {s : State} (h : s.tagOf a = .io none) :
    s.writeByte a v = s := by
  unfold State.writeByte
  rw [h]

theorem State.peek_poke_same (a : Word) (v : Byte) (s : State) : (s.poke a v).peek a = v := by
  simp [State.peek_poke]

theorem State.peek_poke_other {a b : Word} (v : Byte) (s : State) (h : b ≠ a) : (s.poke a v).peek b = s.peek b := by
  simp [State.peek_poke, h]

/-- A Ram cell reads as the byte written to it, with nothing else changed by the read. -/
theorem State.readByte_poke_ram {a : Word} (v : Byte) {s : State} (h : s.tagOf a = .ram) :
    (s.poke a v).readByte a = (v, s.poke a v) := by
  have hpoke : (s.poke a v).tagOf a = .ram := h
  rw [State.readByte_plain (.inl hpoke), State.peek_poke_same]

/-- Settles O15: `State.writeByte_kept` for every cell, then the three tags that have no handler. -/
theorem writesChangeOneCell : Obligations.WritesChangeOneCell := by
  intro a v s t
  refine ⟨fun b hb => State.peek_writeByte_other v s hb, s.writeByte_regs a v, s.writeByte_tags a v,
    s.writeByte_cpuState a v, s.writeByte_nmiArmed a v, fun hram => ?_, State.writeByte_rom v,
    State.writeByte_unhandled v⟩
  have ht : t = s.poke a v := State.writeByte_ram v hram
  rw [ht]
  exact ⟨rfl, State.readByte_poke_ram v hram⟩

/-! ### The address map (R82) -/

/-- The trap cells, defined last, cover every earlier definition. -/
theorem tagAt_foldl_defineIo (traps : List Nat) (h : Option Device) (ts : List TagRange) (a : Nat) :
    tagAt (traps.foldl (fun ts k => defineIo k k h ts) ts) a = if a ∈ traps then .io h else tagAt ts a := by
  induction traps generalizing ts with
  | nil => simp
  | cons k rest ih =>
    have hk : tagAt (defineIo k k h ts) a = if a = k then .io h else tagAt ts a := by
      have hcover : (k ≤ a ∧ a ≤ k) ↔ a = k := by omega
      simp only [defineIo, tagAt, hcover]
    rw [List.foldl_cons, ih, hk]
    by_cases hrest : a ∈ rest <;> simp [hrest]

theorem tagAt_initTags (traps : List Nat) (a : Nat) :
    tagAt (initTags traps) a = if a ∈ traps then .io (some .tapeTrap) else tagAt (initTags []) a :=
  tagAt_foldl_defineIo traps _ _ a

/-- The map without trap cells, newest definition first. -/
theorem tagAt_initTags_nil (a : Nat) :
    tagAt (initTags []) a =
      if 0xFFC0 ≤ a ∧ a ≤ 0xFFDF then .io (some .sam)
      else if 0xFF40 ≤ a ∧ a ≤ 0xFF48 then .io (some .wd2797)
      else if 0xFF20 ≤ a ∧ a ≤ 0xFF23 then .io (some .pia1)
      else if 0xFF00 ≤ a ∧ a ≤ 0xFF03 then .io (some .pia0)
      else if 0xFF00 ≤ a ∧ a ≤ 0xFFEF then .io none
      else if 0xFFF0 ≤ a ∧ a ≤ 0xFFFF then .rom
      else if 0x8000 ≤ a ∧ a ≤ 0xFEFF then .rom
      else .ram := rfl

/-- Settles O17: a branch of the map and a row of R82 agree, or their ranges do not meet. -/
theorem initialMap : Obligations.InitialMap := by
  intro traps a _ ha
  rw [tagAt_initTags]
  have hmap := tagAt_initTags_nil a
  generalize tagAt (initTags []) a = tag at hmap ⊢
  by_cases htrap : a ∈ traps
  · rw [if_pos htrap, if_pos htrap]
  · rw [if_neg htrap, if_neg htrap]
    rcases lt_or_ge a 0xFF40 with hlow | hhigh
    · grind
    · grind

end Sys2Proof.Machine

/-! ## Instructions that write no cell (spec/20_memory.md R97)

What R97 counts as memory is read off the state as one value, so that keeping it is one equation per operation. -/

namespace Sys2Proof.Machine
open Sys2Proof.Reference

/-! ### What is stored -/

/-- What a read cannot change and a store can: memory, the SAM, the VDG, the tape trap and the disk image. -/
structure Contents where
  mem : Memory
  sam : BitVec 16
  piaVideoMode : Byte
  frame : Frame
  tape : Tape
  image : DiskImage

/-- The contents of a machine. -/
def State.contents (s : State) : Contents :=
  ⟨s.mem, s.dev.sam, s.dev.piaVideoMode, s.dev.frame, s.dev.tape, s.dev.image⟩

/-- Reading changes none of the contents. -/
theorem State.contents_of_readOnly {s t : State} (h : ReadOnly s t) : t.contents = s.contents := by
  obtain ⟨-, -, -, -, -, hmem, -, -, hdev, -, -, -, -⟩ := h
  rw [State.contents, hmem, hdev]
  rfl

section
variable (s : State)

@[simp] theorem State.mapRegs_contents (f : Regs → Regs) : (s.mapRegs f).contents = s.contents := rfl
@[simp] theorem State.setCC_contents (cc : CC) : (s.setCC cc).contents = s.contents := rfl
@[simp] theorem State.setPC_contents (pc : Word) : (s.setPC pc).contents = s.contents := rfl
@[simp] theorem State.raiseIllegal_contents : s.raiseIllegal.contents = s.contents := rfl
@[simp] theorem State.regs_contents (r : Regs) : ({ s with regs := r } : State).contents = s.contents := rfl
@[simp] theorem State.cpuState_contents (c : CpuState) : ({ s with cpuState := c } : State).contents = s.contents := rfl

@[simp] theorem State.writeReg_contents (k : Reg) (v : Word) : (s.writeReg k v).contents = s.contents := by
  rw [State.writeReg_eq]
  rfl

@[simp] theorem State.readByte_contents (a : Word) : (s.readByte a).2.contents = s.contents :=
  State.contents_of_readOnly (s.readByte_readOnly a)

@[simp] theorem State.readWord_contents (a : Word) : (s.readWord a).2.contents = s.contents := by
  simp [State.readWord]

@[simp] theorem State.pull8_contents (k : StackReg) : (s.pull8 k).2.contents = s.contents := by
  simp [State.pull8]

@[simp] theorem State.pull16_contents (k : StackReg) : (s.pull16 k).2.contents = s.contents := by
  simp [State.pull16]

/-! ### Operands -/

@[simp] theorem State.indexedEA_contents (ix : Indexed) : (s.indexedEA ix).2.contents = s.contents := by
  unfold State.indexedEA
  dsimp only
  split <;> simp

@[simp] theorem State.ea_contents (m : MemOperand) : (s.ea m).2.contents = s.contents := by
  cases m <;> simp [State.ea]

@[simp] theorem State.operand8_contents (o : Operand8) : (s.operand8 o).2.contents = s.contents := by
  cases o <;> simp [State.operand8]

@[simp] theorem State.operand16_contents (o : Operand16) : (s.operand16 o).2.contents = s.contents := by
  cases o <;> simp [State.operand16]

/-! ### The shapes of the instructions that only read -/

@[simp] theorem State.accOp_contents (f : Byte → Byte → CC → Byte × CC) (k : Acc) (o : Operand8) :
    (s.accOp f k o).contents = s.contents := by
  simp [State.accOp]

@[simp] theorem State.accTest_contents (f : Byte → Byte → CC → Byte × CC) (k : Acc) (o : Operand8) :
    (s.accTest f k o).contents = s.contents := by
  simp [State.accTest]

@[simp] theorem State.accUnary_contents (f : Byte → CC → Byte × CC) (k : Acc) :
    (s.accUnary f k).contents = s.contents := rfl

@[simp] theorem State.load8_contents (k : Acc) (o : Operand8) : (s.load8 k o).contents = s.contents := by
  simp [State.load8]

@[simp] theorem State.load16_contents (k : Reg) (o : Operand16) : (s.load16 k o).contents = s.contents := by
  simp [State.load16]

@[simp] theorem State.leaZ_contents (k : Reg) (ix : Indexed) : (s.leaZ k ix).contents = s.contents := by
  simp [State.leaZ]

@[simp] theorem State.leaQuiet_contents (k : Reg) (ix : Indexed) : (s.leaQuiet k ix).contents = s.contents := by
  simp [State.leaQuiet]

@[simp] theorem State.dOp_contents (f : Word → Word → CC → Word × CC) (o : Operand16) :
    (s.dOp f o).contents = s.contents := by
  simp [State.dOp]

@[simp] theorem State.cmp16_contents (k : Reg) (o : Operand16) : (s.cmp16 k o).contents = s.contents := by
  simp [State.cmp16]

@[simp] theorem State.testMem_contents (m : MemOperand) : (s.testMem m).contents = s.contents := by
  simp [State.testMem]

@[simp] theorem State.clearAcc_contents (k : Acc) : (s.clearAcc k).contents = s.contents := rfl

@[simp] theorem State.testAcc_contents (k : Acc) : (s.testAcc k).contents = s.contents := rfl

theorem State.when_contents {p : Bool} {f : State → State} (h : ∀ u : State, (f u).contents = u.contents) :
    (s.when p f).contents = s.contents := by
  cases p
  · rfl
  · exact h s

@[simp] theorem State.pullList_contents (k : StackReg) (pb : Byte) : (s.pullList k pb).contents = s.contents := by
  simp [State.pullList, State.when_contents, State.pullReg8, State.pullReg16]

@[simp] theorem State.branch_contents (taken : Bool) (off : Word) : (s.branch taken off).contents = s.contents := by
  simp [State.branch_eq]

@[simp] theorem State.jump_contents (m : MemOperand) : (s.jump m).contents = s.contents := by
  simp [State.jump]

@[simp] theorem State.returnSub_contents : s.returnSub.contents = s.contents := by
  simp [State.returnSub]

@[simp] theorem State.transfer_contents (src dst : Reg) : (s.transfer src dst).contents = s.contents := by
  unfold State.transfer
  split <;> simp

@[simp] theorem State.exchange_contents (r1 r2 : Reg) : (s.exchange r1 r2).contents = s.contents := by
  unfold State.exchange
  split <;> simp

@[simp] theorem State.returnFromInterrupt_contents : s.returnFromInterrupt.contents = s.contents := by
  unfold State.returnFromInterrupt
  rw [State.setPC_contents, State.pull16_contents]
  split <;> simp

end

/-! ### Every instruction -/

theorem exists_memOperand {p : MemOperand → Prop} :
    (∃ m, p m) ↔ (∃ lo, p (.dir lo)) ∨ (∃ ix, p (.idx ix)) ∨ ∃ a, p (.ext a) := by
  constructor
  · rintro ⟨m, hm⟩
    cases m with
    | dir lo => exact .inl ⟨lo, hm⟩
    | idx ix => exact .inr (.inl ⟨ix, hm⟩)
    | ext a => exact .inr (.inr ⟨a, hm⟩)
  · rintro (⟨x, h⟩ | ⟨x, h⟩ | ⟨x, h⟩) <;> exact ⟨_, h⟩

theorem stores_of_store8 {i : Instr} (k : Acc) (h : ∃ m, i = .store8 k m) : stores i := .inl ⟨k, h⟩

theorem stores_of_store16 {i : Instr} (k : Reg16) (h : ∃ m, i = .store16 k m) : stores i := .inr (.inl ⟨k, h⟩)

theorem stores_of_unaryMem {i : Instr} (op : UnaryOp) (h : ∃ m, i = .unaryMem op m) : stores i :=
  .inr (.inr (.inl ⟨op, h⟩))

theorem stores_of_clr {i : Instr} (h : ∃ m, i = .clr m) : stores i := .inr (.inr (.inr (.inl h)))

theorem stores_of_jsr {i : Instr} (h : ∃ m, i = .jsr m) : stores i := .inr (.inr (.inr (.inr (.inl h))))

/-- An instruction stores, or it completes with the contents as they are. The storing ones come first, each with the
operation it is a mode of. -/
theorem exec_stores_or_contents (i : Instr) (s : State) :
    stores i ∨ ∃ t, exec i s = .next t ∧ t.contents = s.contents := by
  cases i
  case staDir | staIdx | staExt => exact .inl (stores_of_store8 .a (by simp [exists_memOperand, Instr.store8]))
  case stbDir | stbIdx | stbExt => exact .inl (stores_of_store8 .b (by simp [exists_memOperand, Instr.store8]))
  case stdDir | stdIdx | stdExt => exact .inl (stores_of_store16 .d (by simp [exists_memOperand, Instr.store16]))
  case stxDir | stxIdx | stxExt => exact .inl (stores_of_store16 .x (by simp [exists_memOperand, Instr.store16]))
  case styDir | styIdx | styExt => exact .inl (stores_of_store16 .y (by simp [exists_memOperand, Instr.store16]))
  case stuDir | stuIdx | stuExt => exact .inl (stores_of_store16 .u (by simp [exists_memOperand, Instr.store16]))
  case stsDir | stsIdx | stsExt => exact .inl (stores_of_store16 .s (by simp [exists_memOperand, Instr.store16]))
  case negDir | negIdx | negExt => exact .inl (stores_of_unaryMem .neg (by simp [exists_memOperand, Instr.unaryMem]))
  case comDir | comIdx | comExt => exact .inl (stores_of_unaryMem .com (by simp [exists_memOperand, Instr.unaryMem]))
  case lsrDir | lsrIdx | lsrExt => exact .inl (stores_of_unaryMem .lsr (by simp [exists_memOperand, Instr.unaryMem]))
  case rorDir | rorIdx | rorExt => exact .inl (stores_of_unaryMem .ror (by simp [exists_memOperand, Instr.unaryMem]))
  case asrDir | asrIdx | asrExt => exact .inl (stores_of_unaryMem .asr (by simp [exists_memOperand, Instr.unaryMem]))
  case lslDir | lslIdx | lslExt => exact .inl (stores_of_unaryMem .asl (by simp [exists_memOperand, Instr.unaryMem]))
  case rolDir | rolIdx | rolExt => exact .inl (stores_of_unaryMem .rol (by simp [exists_memOperand, Instr.unaryMem]))
  case decDir | decIdx | decExt => exact .inl (stores_of_unaryMem .dec (by simp [exists_memOperand, Instr.unaryMem]))
  case incDir | incIdx | incExt => exact .inl (stores_of_unaryMem .inc (by simp [exists_memOperand, Instr.unaryMem]))
  case clrDir | clrIdx | clrExt => exact .inl (stores_of_clr (by simp [exists_memOperand, Instr.clr]))
  case jsrDir | jsrIdx | jsrExt => exact .inl (stores_of_jsr (by simp [exists_memOperand, Instr.jsr]))
  case bsr | lbsr | pshs | pshu | swi | swi2 | swi3 | cwai => exact .inl (by simp [stores])
  all_goals exact .inr ⟨_, rfl, by simp⟩

/-- Settles O13: an instruction that is none of `stores` only reads and writes registers. -/
theorem onlyStoresChangeMemory : Obligations.OnlyStoresChangeMemory := by
  intro i s t hexec hquiet
  obtain ⟨u, hu, hkept⟩ := (exec_stores_or_contents i s).resolve_left hquiet
  obtain rfl : u = t := by simpa [hu] using hexec
  exact ⟨congrArg Contents.mem hkept, congrArg Contents.sam hkept, congrArg Contents.piaVideoMode hkept,
    congrArg Contents.frame hkept, congrArg Contents.tape hkept, congrArg Contents.image hkept⟩

end Sys2Proof.Machine

/-! ## Cells one after another, and words (spec/20_memory.md R90, R91)

A range of cells is one cell and the range after it; a stored list of bytes grows by one poke at the cell below. -/

namespace Sys2Proof.Reference
open Sys2Proof.Machine

/-! ### Ranges of cells -/

/-- What holds of the `n + 1` cells from `b` on: of `b`, and of the `n` cells from `b + 1` on. -/
theorem forall_cells_succ (p : Word → Prop) (b : Word) (n : Nat) :
    (∀ k < n + 1, p (b + BitVec.ofNat 16 k)) ↔ p b ∧ ∀ k < n, p (b + 1#16 + BitVec.ofNat 16 k) := by
  have hnext : ∀ k, b + 1#16 + BitVec.ofNat 16 k = b + BitVec.ofNat 16 (k + 1) := fun k => by bv_omega
  simp only [hnext, Nat.forall_lt_succ_left, BitVec.add_zero]

theorem ramFrom_succ (s : State) (b : Word) (n : Nat) :
    RamFrom s b (n + 1) ↔ s.tagOf b = .ram ∧ RamFrom s (b + 1#16) n :=
  forall_cells_succ (fun c => s.tagOf c = .ram) b n

theorem plainFrom_succ (s : State) (b : Word) (n : Nat) :
    PlainFrom s b (n + 1) ↔ Plain s b ∧ PlainFrom s (b + 1#16) n :=
  forall_cells_succ (Plain s) b n

theorem outside_succ (b : Word) (n : Nat) (a : Word) : Outside b (n + 1) a ↔ a ≠ b ∧ Outside (b + 1#16) n a :=
  forall_cells_succ (a ≠ ·) b n

/-- A cell lies outside the cells after it, as long as these do not come round to it. -/
theorem outside_below (b : Word) {n : Nat} (hn : n < 65536) : Outside (b + 1#16) n b := by
  intro k hk
  bv_omega

theorem bytesFrom_congr {s t : State} {b : Word} {n : Nat}
    (h : ∀ k < n, t.peek (b + BitVec.ofNat 16 k) = s.peek (b + BitVec.ofNat 16 k)) :
    bytesFrom t b n = bytesFrom s b n := by
  induction n generalizing b with
  | zero => rfl
  | succ n ih =>
    obtain ⟨hb, hrest⟩ := (forall_cells_succ (fun c => t.peek c = s.peek c) b n).mp h
    rw [bytesFrom, bytesFrom, hb, ih hrest]

/-! ### What differs in memory and registers only -/

theorem sameOutside_iff {s t : State} : SameOutside s t ↔ ∃ r m, t = { s with regs := r, mem := m } := by
  constructor
  · exact fun h => ⟨_, _, h⟩
  · rintro ⟨r, m, rfl⟩
    rfl

theorem SameOutside.mapRegs {s t : State} (h : SameOutside s t) (f : Regs → Regs) : SameOutside s (t.mapRegs f) := by
  obtain ⟨r, m, rfl⟩ := sameOutside_iff.mp h
  rfl

theorem SameOutside.poke {s t : State} (h : SameOutside s t) (a : Word) (v : Byte) : SameOutside s (t.poke a v) := by
  obtain ⟨r, m, rfl⟩ := sameOutside_iff.mp h
  rfl

/-! ### Stored bytes -/

theorem Stored.of_mem_eq {s t u : State} {b : Word} {bs : List Byte} (h : Stored s t b bs) (hmem : u.mem = t.mem) :
    Stored s u b bs := by
  have hpeek : ∀ a, u.peek a = t.peek a := fun a => by rw [State.peek, hmem, State.peek]
  exact ⟨(bytesFrom_congr fun k _ => hpeek _).trans h.1, fun a ha => (hpeek a).trans (h.2 a ha)⟩

/-- A byte put below stored ones is stored with them. -/
theorem Stored.poke_cons {s t : State} {b : Word} {bs : List Byte} (h : Stored s t (b + 1#16) bs)
    (hlen : bs.length < 65536) (v : Byte) : Stored s (t.poke b v) b (v :: bs) := by
  obtain ⟨hbytes, hother⟩ := h
  constructor
  · have hrest : bytesFrom (t.poke b v) (b + 1#16) bs.length = bytesFrom t (b + 1#16) bs.length :=
      bytesFrom_congr fun k hk => State.peek_poke_other v t (outside_below b hlen k hk).symm
    rw [List.length_cons, bytesFrom, State.peek_poke_same, hrest, hbytes]
  · intro a ha
    obtain ⟨hab, hout⟩ := (outside_succ b bs.length a).mp ha
    rw [State.peek_poke_other v t hab, hother a hout]

end Sys2Proof.Reference

namespace Sys2Proof.Machine
open Sys2Proof.Reference

/-! ### Words (R90, R91) -/

theorem hiByte_eq_ofNat (w : Word) : hiByte w = BitVec.ofNat 8 (w.toNat / 256) := by
  apply BitVec.eq_of_toNat_eq
  simp [hiByte, Nat.shiftRight_eq_div_pow]

theorem loByte_eq_ofNat (w : Word) : loByte w = BitVec.ofNat 8 (w.toNat % 256) := by
  apply BitVec.eq_of_toNat_eq
  simp [loByte]

theorem joinBytes_eq_ofNat (h l : Byte) : joinBytes h l = BitVec.ofNat 16 (256 * h.toNat + l.toNat) := by
  apply BitVec.eq_of_toNat_eq
  rw [joinBytes, BitVec.toNat_append, ← Nat.shiftLeft_add_eq_or_of_lt l.isLt, Nat.shiftLeft_eq, BitVec.toNat_ofNat]
  omega

theorem joinBytes_hiByte_loByte (w : Word) : joinBytes (hiByte w) (loByte w) = w := by
  rw [joinBytes_eq_ofNat, hiByte_eq_ofNat, loByte_eq_ofNat]
  bv_omega

theorem wordAt_eq_joinBytes (s : State) (a : Word) : wordAt s a = joinBytes (s.peek a) (s.peek (a + 1#16)) :=
  (joinBytes_eq_ofNat _ _).symm

/-- A 16-bit read of two cells without side effects is the word that stands there. -/
theorem State.readWord_plainFrom {a : Word} {s : State} (h : PlainFrom s a 2) : s.readWord a = (wordAt s a, s) := by
  obtain ⟨hhi, hrest⟩ := (plainFrom_succ s a 1).mp h
  obtain ⟨hlo, -⟩ := (plainFrom_succ s (a + 1#16) 0).mp hrest
  rw [State.readWord_plain hhi hlo, wordAt_eq_joinBytes]

theorem RamFrom.plainFrom {s : State} {a : Word} {n : Nat} (h : RamFrom s a n) : PlainFrom s a n :=
  fun k hk => .inl (h k hk)

/-- A 16-bit write to two Ram cells is two pokes, the high byte first. -/
theorem State.writeWord_ram {a : Word} (v : Word) {s : State} (h : RamFrom s a 2) :
    s.writeWord a v = (s.poke a (hiByte v)).poke (a + 1#16) (loByte v) := by
  obtain ⟨hhi, hrest⟩ := (ramFrom_succ s a 1).mp h
  obtain ⟨hlo, -⟩ := (ramFrom_succ s (a + 1#16) 0).mp hrest
  rw [State.writeWord, State.writeByte_ram _ hhi, State.writeByte_ram]
  exact hlo

/-- The two cells of a word hold its bytes, and every other cell is as before. -/
theorem stored_wordBytes (a v : Word) (s : State) :
    Stored s ((s.poke a (hiByte v)).poke (a + 1#16) (loByte v)) a (wordBytes v) := by
  have hne : a ≠ a + 1#16 := by bv_omega
  constructor
  · simp [wordBytes, bytesFrom, State.peek_poke, hne]
  · intro b hb
    obtain ⟨hhi, hrest⟩ := (outside_succ a 1 b).mp hb
    obtain ⟨hlo, -⟩ := (outside_succ (a + 1#16) 0 b).mp hrest
    rw [State.peek_poke_other _ _ hlo, State.peek_poke_other _ _ hhi]

theorem wordAt_of_stored {s t : State} {a v : Word} (h : Stored s t a (wordBytes v)) : wordAt t a = v := by
  obtain ⟨hhi, hlo⟩ : t.peek a = hiByte v ∧ t.peek (a + 1#16) = loByte v := by
    simpa [wordBytes, bytesFrom] using h.1
  rw [wordAt_eq_joinBytes, hhi, hlo, joinBytes_hiByte_loByte]

/-- Settles O16: two pokes, which leave the bytes of the word, and a read of these. -/
theorem wordsAreBigEndian : Obligations.WordsAreBigEndian := by
  intro a v s hram t
  have ht : t = (s.poke a (hiByte v)).poke (a + 1#16) (loByte v) := State.writeWord_ram v hram
  have hstored : Stored s t a (wordBytes v) := ht ▸ stored_wordBytes a v s
  have hsame : SameOutside s t := ht ▸ rfl
  have hplain : PlainFrom t a 2 := fun k hk => .inl (by rw [ht]; exact hram k hk)
  refine ⟨hsame, State.writeWord_regs a v s, ?_, ?_⟩
  · rw [← hiByte_eq_ofNat, ← loByte_eq_ofNat]
    exact hstored
  · rw [State.readWord_plainFrom hplain, wordAt_of_stored hstored]

end Sys2Proof.Machine

/-! ## Frames and exceptions (spec/30_encoding.md R142, spec/60_exceptions.md R440)

A frame is a chain of pushes: the rule for one push is proved once, with what it leaves unchanged. -/

namespace Sys2Proof.Machine
open Sys2Proof.Reference

/-! ### Pushes -/

/-- From `s` to `t` the bytes `bs` have been pushed through the pointer `k`, the first of the list to the lowest
address: the pointer has moved and no other register, no tag and no cell elsewhere has changed, and where the cells are
Ram they hold `bs` and nothing else of the machine has changed. -/
structure State.Pushed (k : StackReg) (s t : State) (bs : List Byte) : Prop where
  regs : t.regs = s.regs.setBase k.reg (s.regs.base k.reg - BitVec.ofNat 16 bs.length)
  tags : t.tags = s.tags
  other : ∀ a, Outside (s.regs.base k.reg - BitVec.ofNat 16 bs.length) bs.length a → t.peek a = s.peek a
  ram : RamFrom s (s.regs.base k.reg - BitVec.ofNat 16 bs.length) bs.length →
    SameOutside s t ∧ Stored s t (s.regs.base k.reg - BitVec.ofNat 16 bs.length) bs

theorem State.Pushed.nil (k : StackReg) (s : State) : State.Pushed k s s [] where
  regs := by cases k <;> simp [StackReg.reg, Regs.setBase, Regs.base]
  tags := rfl
  other _ _ := rfl
  ram _ := ⟨rfl, rfl, fun _ _ => rfl⟩

section
variable {k : StackReg} {s t : State} {bs : List Byte}

/-- One more byte, at the address below. -/
theorem State.Pushed.push8 (h : State.Pushed k s t bs) (hlen : bs.length < 65536) (v : Byte) :
    State.Pushed k s (t.push8 k v) (v :: bs) := by
  have hbase : t.regs.base k.reg - 1#16 = s.regs.base k.reg - BitVec.ofNat 16 (v :: bs).length := by
    rw [h.regs, Regs.setBase_base, List.length_cons]
    bv_omega
  have hnext : s.regs.base k.reg - BitVec.ofNat 16 (v :: bs).length + 1#16
      = s.regs.base k.reg - BitVec.ofNat 16 bs.length := by
    rw [List.length_cons]
    bv_omega
  constructor
  case regs => rw [State.push8_regs, hbase, h.regs, Regs.setBase_setBase]
  case tags => rw [State.push8_tags, h.tags]
  case other =>
    intro a ha
    obtain ⟨hlow, hrest⟩ := (outside_succ _ _ a).mp ha
    rw [hnext] at hrest
    rw [State.peek_push8_other k v t (hbase ▸ hlow), h.other a hrest]
  case ram =>
    intro hram
    obtain ⟨hlow, hrest⟩ := (ramFrom_succ s _ _).mp hram
    rw [hnext] at hrest
    obtain ⟨hsame, hstored⟩ := h.ram hrest
    rw [← hnext] at hstored
    have htag : t.tagOf (t.regs.base k.reg - 1#16) = .ram := by rw [State.tagOf, h.tags, hbase]; exact hlow
    rw [State.push8_ram v htag, hbase]
    exact ⟨(hsame.mapRegs _).poke _ _, (hstored.of_mem_eq (State.mapRegs_mem _ t)).poke_cons hlen v⟩

/-- One more word, its high byte at the lower address. -/
theorem State.Pushed.push16 (h : State.Pushed k s t bs) (hlen : bs.length < 65535) (v : Word) :
    State.Pushed k s (t.push16 k v) (wordBytes v ++ bs) :=
  (h.push8 (by omega) (loByte v)).push8 (by rw [List.length_cons]; omega) (hiByte v)

end

theorem entireFrame_eq (r : Regs) :
    entireFrame r = r.cc.toByte :: r.a :: r.b :: r.dp ::
      (wordBytes r.x ++ (wordBytes r.y ++ (wordBytes r.u ++ wordBytes r.pc))) := rfl

/-- No push changes a register that is still to come. -/
theorem State.pushEntire_eq (s : State) :
    s.pushEntire =
      (s.push16 .s s.regs.pc |>.push16 .s s.regs.u |>.push16 .s s.regs.y |>.push16 .s s.regs.x
        |>.push8 .s s.regs.dp |>.push8 .s s.regs.b |>.push8 .s s.regs.a |>.push8 .s s.regs.cc.toByte) := by
  simp [State.pushEntire, StackReg.reg, Regs.setBase]

theorem State.pushShort_eq (s : State) : s.pushShort = (s.push16 .s s.regs.pc).push8 .s s.regs.cc.toByte := by
  simp [State.pushShort]

/-- The entire state is pushed, CC at the lowest address (R411). -/
theorem State.pushEntire_pushed (s : State) : State.Pushed .s s s.pushEntire (entireFrame s.regs) := by
  have hpc := (State.Pushed.nil .s s).push16 (by simp) s.regs.pc
  have hu := hpc.push16 (by simp [wordBytes]) s.regs.u
  have hy := hu.push16 (by simp [wordBytes]) s.regs.y
  have hx := hy.push16 (by simp [wordBytes]) s.regs.x
  have hdp := hx.push8 (by simp [wordBytes]) s.regs.dp
  have hb := hdp.push8 (by simp [wordBytes]) s.regs.b
  have ha := hb.push8 (by simp [wordBytes]) s.regs.a
  rw [State.pushEntire_eq, entireFrame_eq]
  simpa using ha.push8 (by simp [wordBytes]) s.regs.cc.toByte

/-- The short frame is pushed (R440). -/
theorem State.pushShort_pushed (s : State) : State.Pushed .s s s.pushShort (shortFrame s.regs) := by
  have hpc := (State.Pushed.nil .s s).push16 (by simp) s.regs.pc
  rw [State.pushShort_eq]
  exact hpc.push8 (by simp [wordBytes]) s.regs.cc.toByte

/-! ### Taking an exception -/

/-- The frame an event pushes (R440). -/
def Event.frame (e : Event) (r : Regs) : List Byte := if e.entire then entireFrame r else shortFrame r

/-- The last part of an entry, with a vector in cells without side effects. -/
theorem State.vectorTo_plainFrom {e : Event} {s : State} (h : PlainFrom s e.vector 2) :
    s.vectorTo e = s.mapRegs fun r => { r with cc := e.mask r.cc, pc := wordAt s e.vector } := by
  have hcc : PlainFrom (s.setCC (e.mask s.regs.cc)) e.vector 2 := h
  rw [State.vectorTo, State.readWord_plainFrom hcc]
  rfl

/-- Taking an exception after the frame has been pushed (R440). -/
theorem State.Pushed.vectorTo_entered {e : Event} {s t : State} {frame : List Byte}
    (h : State.Pushed .s s t frame) : Entered e.vector (e.mask s.regs.cc) frame s (t.vectorTo e) := by
  have hcc : t.regs.cc = s.regs.cc := by rw [h.regs, Regs.setBase_cc]
  refine ⟨?_, fun a ha => ?_, fun hram => ?_⟩
  · rw [State.vectorTo_regs, hcc, h.regs]
    rfl
  · rw [State.peek, State.vectorTo_mem]
    exact h.other a ha
  · obtain ⟨hsame, hstored⟩ := h.ram hram
    refine ⟨hstored.of_mem_eq (State.vectorTo_mem e t), fun hplain => ?_⟩
    have hvector : PlainFrom t e.vector 2 := by
      simpa only [PlainFrom, Plain, State.tagOf, h.tags] using hplain
    rw [State.vectorTo_plainFrom hvector]
    exact ⟨hsame.mapRegs _, rfl⟩

/-- Taking an exception: E, the frame, the masks and the vector (R414 to R416, R440). -/
theorem State.takeException_entered (e : Event) (s : State) :
    let cc := { s.regs.cc with e := e.entire }
    Entered e.vector (e.mask cc) (e.frame { s.regs with cc := cc }) s (s.takeException e) := by
  have hpushed : State.Pushed .s (s.setE e.entire)
      (if e.entire then (s.setE e.entire).pushEntire else (s.setE e.entire).pushShort)
      (e.frame (s.setE e.entire).regs) := by
    unfold Event.frame
    split
    · exact State.pushEntire_pushed _
    · exact State.pushShort_pushed _
  exact hpushed.vectorTo_entered

/-- Settles O40: the three software interrupts are exceptions that push the entire state. -/
theorem softwareInterrupts : Obligations.SoftwareInterrupts :=
  fun s => ⟨⟨_, rfl, s.takeException_entered .swi⟩, ⟨_, rfl, s.takeException_entered .swi2⟩,
    ⟨_, rfl, s.takeException_entered .swi3⟩⟩

end Sys2Proof.Machine

/-! ## The encoding (spec/30_encoding.md R120 to R149)

Each part of the decoder answers a value exactly when the bytes are those of the encoder, so that the round trip in both
directions is one equivalence per part: operand bytes, the shape of an operand, the opcode. -/

namespace Sys2Proof
open Sys2Proof.Machine

/-! ### Operand bytes (R123) -/

theorem Decoded.map_eq_ok_iff {α β : Type} (f : α → β) (d : Decoded α) (w : β) (rest : List Byte) :
    Decoded.map f d = .ok (w, rest) ↔ ∃ v, d = .ok (v, rest) ∧ f v = w := by
  rcases d with e | ⟨v, r⟩
  · simp [Decoded.map]
  · constructor
    · rintro ⟨⟩
      exact ⟨v, rfl, rfl⟩
    · rintro ⟨_, ⟨⟩, rfl⟩
      rfl

theorem decodeByte_eq_ok_iff (bs rest : List Byte) (b : Byte) : decodeByte bs = .ok (b, rest) ↔ bs = [b] ++ rest := by
  cases bs <;> simp [decodeByte]

theorem hiByte_joinBytes (h l : Byte) : hiByte (joinBytes h l) = h := BitVec.extractLsb'_append_eq_left

theorem loByte_joinBytes (h l : Byte) : loByte (joinBytes h l) = l := BitVec.extractLsb'_append_eq_right

theorem wordBytes_joinBytes (h l : Byte) : wordBytes (joinBytes h l) = [h, l] := by
  rw [wordBytes, hiByte_joinBytes, loByte_joinBytes]

theorem decodeWord_eq_ok_iff (bs rest : List Byte) (w : Word) :
    decodeWord bs = .ok (w, rest) ↔ bs = wordBytes w ++ rest := by
  constructor
  · intro h
    match bs with
    | [] | [_] => simp [decodeWord] at h
    | hi :: lo :: tail =>
      obtain ⟨rfl, rfl⟩ : joinBytes hi lo = w ∧ tail = rest := by simpa [decodeWord] using h
      rw [wordBytes_joinBytes]
      rfl
  · rintro rfl
    simp [wordBytes, decodeWord, joinBytes_hiByte_loByte]

/-! ### Indexed post-bytes (R130, R131, R135) -/

@[simp] theorem indexReg_code (r : IndexReg) : indexReg r.code = r := by cases r <;> rfl

@[simp] theorem code_indexReg (rr : BitVec 2) : (indexReg rr).code = rr := by
  revert rr
  decide

section
variable (r : IndexReg) (i : Bool) (t : BitVec 4)

@[simp] theorem postByte_bit7 : bit (postByte r i t) 7 = true := by
  cases r <;> revert i t <;> decide

@[simp] theorem postByte_register : (postByte r i t).extractLsb' 5 2 = r.code := by
  cases r <;> revert i t <;> decide

@[simp] theorem postByte_indirect : bit (postByte r i t) 4 = i := by
  cases r <;> revert i t <;> decide

@[simp] theorem postByte_row : (postByte r i t).extractLsb' 0 4 = t := BitVec.extractLsb'_append_eq_right

end

/-- A byte with bit 7 set is a post-byte 1 rr i tttt. -/
theorem exists_postByte {pb : Byte} (h : bit pb 7 = true) : ∃ r i t, pb = postByte r i t := by
  refine ⟨indexReg (pb.extractLsb' 5 2), bit pb 4, pb.extractLsb' 0 4, ?_⟩
  rw [postByte, code_indexReg]
  revert pb
  decide

section
variable (r : IndexReg) (n : BitVec 5)

@[simp] theorem offsetByte_bit7 : bit (0#1 ++ r.code ++ n : Byte) 7 = false := by
  cases r <;> revert n <;> decide

@[simp] theorem offsetByte_register : (0#1 ++ r.code ++ n : Byte).extractLsb' 5 2 = r.code := by
  cases r <;> revert n <;> decide

@[simp] theorem offsetByte_offset : (0#1 ++ r.code ++ n : Byte).extractLsb' 0 5 = n :=
  BitVec.extractLsb'_append_eq_right

end

/-- A byte with bit 7 clear is a register and a 5-bit offset. -/
theorem eq_offsetByte {pb : Byte} (h : bit pb 7 = false) : pb = 0#1 ++ pb.extractLsb' 5 2 ++ pb.extractLsb' 0 5 := by
  revert pb
  decide

theorem decodeIndexed_postByte (r : IndexReg) (i : Bool) (t : BitVec 4) (bs : List Byte) :
    decodeIndexed (postByte r i t :: bs) = decodeIndexedForm (postByte r i t) bs := by
  simp [decodeIndexed]

/-- Decoding the encoding of an indexed operand gives it back. -/
theorem decodeIndexed_encodeIndexed {ix : Indexed} (h : ix.wf = true) (rest : List Byte) :
    decodeIndexed (encodeIndexed ix ++ rest) = .ok (ix, rest) := by
  obtain ⟨f, i⟩ := ix
  cases f
  case off5 =>
    obtain rfl : i = false := by simpa [Indexed.wf] using h
    simp [encodeIndexed, decodeIndexed]
  case inc1 | dec1 =>
    obtain rfl : i = false := by simpa [Indexed.wf] using h
    simp [encodeIndexed, decodeIndexed_postByte, decodeIndexedForm]
  case inc2 | dec2 | zero | accB | accA | accD =>
    simp [encodeIndexed, decodeIndexed_postByte, decodeIndexedForm]
  case off8 | pcr8 =>
    simp [encodeIndexed, decodeIndexed_postByte, decodeIndexedForm, Decoded.map_eq_ok_iff, decodeByte_eq_ok_iff]
  case off16 | pcr16 =>
    simp [encodeIndexed, decodeIndexed_postByte, decodeIndexedForm, Decoded.map_eq_ok_iff, decodeWord_eq_ok_iff]
  case ext =>
    obtain rfl : i = true := h
    simp [encodeIndexed, decodeIndexed_postByte, decodeIndexedForm, Decoded.map_eq_ok_iff, decodeWord_eq_ok_iff]

/-- What a post-byte 1 rr i tttt with the bytes after it decodes to is encoded by them. -/
theorem encodeIndexed_of_decodeIndexedForm {r : IndexReg} {i : Bool} {t : BitVec 4} {bs rest : List Byte} {ix : Indexed}
    (h : decodeIndexedForm (postByte r i t) bs = .ok (ix, rest)) :
    ix.wf = true ∧ encodeIndexed ix ++ rest = postByte r i t :: bs := by
  unfold decodeIndexedForm at h
  simp only [postByte_register, postByte_indirect, postByte_row, indexReg_code] at h
  split at h
  case h_1 ht | h_3 ht =>
    obtain ⟨-, rfl⟩ := BitVec.toNat_eq_nat.mp ht
    split at h
    · contradiction
    · next hi =>
      cases h
      simp [Indexed.wf, encodeIndexed, hi]
  case h_2 ht | h_4 ht | h_5 ht | h_6 ht | h_7 ht | h_10 ht =>
    obtain ⟨-, rfl⟩ := BitVec.toNat_eq_nat.mp ht
    cases h
    exact ⟨rfl, rfl⟩
  case h_8 ht | h_11 ht =>
    obtain ⟨-, rfl⟩ := BitVec.toNat_eq_nat.mp ht
    obtain ⟨n, hn, rfl⟩ := (Decoded.map_eq_ok_iff _ _ _ _).mp h
    obtain rfl := (decodeByte_eq_ok_iff _ _ _).mp hn
    exact ⟨rfl, rfl⟩
  case h_9 ht | h_12 ht =>
    obtain ⟨-, rfl⟩ := BitVec.toNat_eq_nat.mp ht
    obtain ⟨n, hn, rfl⟩ := (Decoded.map_eq_ok_iff _ _ _ _).mp h
    obtain rfl := (decodeWord_eq_ok_iff _ _ _).mp hn
    exact ⟨rfl, rfl⟩
  case h_13 ht =>
    obtain ⟨-, rfl⟩ := BitVec.toNat_eq_nat.mp ht
    split at h
    · next hi =>
      obtain ⟨n, hn, rfl⟩ := (Decoded.map_eq_ok_iff _ _ _ _).mp h
      obtain rfl := (decodeWord_eq_ok_iff _ _ _).mp hn
      rw [hi]
      exact ⟨rfl, rfl⟩
    · contradiction
  case h_14 => contradiction

/-- Whatever decodes to an indexed operand is the encoding of it. -/
theorem encodeIndexed_of_decodeIndexed {bs rest : List Byte} {ix : Indexed} (h : decodeIndexed bs = .ok (ix, rest)) :
    ix.wf = true ∧ encodeIndexed ix ++ rest = bs := by
  match bs with
  | [] => contradiction
  | pb :: tail =>
    unfold decodeIndexed at h
    dsimp only at h
    split at h
    · next h7 =>
      obtain ⟨r, i, t, rfl⟩ := exists_postByte h7
      exact encodeIndexed_of_decodeIndexedForm h
    · next h7 =>
      cases h
      have hpb := eq_offsetByte (Bool.eq_false_iff.mpr h7)
      refine ⟨rfl, ?_⟩
      simp [encodeIndexed, ← hpb]

theorem decodeIndexed_eq_ok_iff (bs rest : List Byte) (ix : Indexed) :
    decodeIndexed bs = .ok (ix, rest) ↔ ix.wf = true ∧ bs = encodeIndexed ix ++ rest := by
  constructor
  · intro h
    obtain ⟨hwf, hbs⟩ := encodeIndexed_of_decodeIndexed h
    exact ⟨hwf, hbs.symm⟩
  · rintro ⟨hwf, rfl⟩
    exact decodeIndexed_encodeIndexed hwf rest

/-! ### Register pairs (R140, R141) -/

theorem regOfCode_eq_some_iff (c : BitVec 4) (r : Reg) : regOfCode c = some r ↔ c = r.code := by
  revert c
  cases r <;> decide

theorem pairByte_split (pb : Byte) (c d : BitVec 4) :
    pb = c ++ d ↔ pb.extractLsb' 4 4 = c ∧ pb.extractLsb' 0 4 = d := by
  constructor
  · rintro rfl
    exact ⟨BitVec.extractLsb'_append_eq_left, BitVec.extractLsb'_append_eq_right⟩
  · rintro ⟨rfl, rfl⟩
    revert pb
    decide

theorem decodePair_eq_ok_iff (bs rest : List Byte) (r q : Reg) :
    decodePair bs = .ok ((r, q), rest) ↔ pairWf r q = true ∧ bs = [r.code ++ q.code] ++ rest := by
  match bs with
  | [] => simp [decodePair]
  | pb :: tail =>
    have hpb : (pb = r.code ++ q.code) ↔
        regOfCode (pb.extractLsb' 4 4) = some r ∧ regOfCode (pb.extractLsb' 0 4) = some q := by
      rw [pairByte_split, regOfCode_eq_some_iff, regOfCode_eq_some_iff]
    unfold decodePair
    simp only [List.cons_append, List.nil_append, List.cons.injEq, hpb]
    split
    · next r' q' hr hq =>
      rw [hr, hq]
      by_cases hsize : r'.is16 = q'.is16
      · rw [if_pos hsize]
        constructor
        · rintro ⟨⟩
          exact ⟨by simpa [pairWf] using hsize, ⟨rfl, rfl⟩, rfl⟩
        · rintro ⟨-, ⟨⟨⟩, ⟨⟩⟩, rfl⟩
          rfl
      · rw [if_neg hsize]
        simp only [reduceCtorEq, false_iff]
        rintro ⟨hwf, ⟨⟨⟩, ⟨⟩⟩, -⟩
        exact hsize (by simpa [pairWf] using hwf)
    · next hnone =>
      simp only [reduceCtorEq, false_iff]
      rintro ⟨-, ⟨hr, hq⟩, -⟩
      exact hnone _ _ hr hq

/-! ### What follows an opcode (R122) -/

/-- The instructions of a shape: an instruction that the shape can stand for, and the bytes of its operand. -/
inductive Shape.Names : Shape → Instr → List Byte → Prop where
  | inh (i : Instr) : Shape.Names (.inh i) i []
  | byte (f : Byte → Instr) (v : Byte) : Shape.Names (.byte f) (f v) [v]
  | word (f : Word → Instr) (w : Word) : Shape.Names (.word f) (f w) (wordBytes w)
  | idx (f : Indexed → Instr) (ix : Indexed) (h : ix.wf = true) : Shape.Names (.idx f) (f ix) (encodeIndexed ix)
  | pair (f : Reg → Reg → Instr) (r q : Reg) (h : pairWf r q = true) : Shape.Names (.pair f) (f r q) [r.code ++ q.code]

theorem Shape.Names.decode {sh : Shape} {i : Instr} {ops : List Byte} (h : sh.Names i ops) (rest : List Byte) :
    sh.decode (ops ++ rest) = .ok (i, rest) := by
  cases h with
  | inh i => rfl
  | byte f v => rfl
  | word f w => exact (Decoded.map_eq_ok_iff _ _ _ _).mpr ⟨w, (decodeWord_eq_ok_iff _ _ _).mpr rfl, rfl⟩
  | idx f ix h => exact (Decoded.map_eq_ok_iff _ _ _ _).mpr ⟨ix, (decodeIndexed_eq_ok_iff _ _ _).mpr ⟨h, rfl⟩, rfl⟩
  | pair f r q h =>
    exact (Decoded.map_eq_ok_iff _ _ _ _).mpr ⟨(r, q), (decodePair_eq_ok_iff _ _ _ _).mpr ⟨h, rfl⟩, rfl⟩

theorem Shape.names_of_decode {sh : Shape} {bs rest : List Byte} {i : Instr} (h : sh.decode bs = .ok (i, rest)) :
    ∃ ops, sh.Names i ops ∧ bs = ops ++ rest := by
  cases sh with
  | inh j =>
    cases h
    exact ⟨[], .inh _, rfl⟩
  | byte f =>
    obtain ⟨v, hv, rfl⟩ := (Decoded.map_eq_ok_iff _ _ _ _).mp h
    exact ⟨_, .byte f v, (decodeByte_eq_ok_iff _ _ _).mp hv⟩
  | word f =>
    obtain ⟨w, hw, rfl⟩ := (Decoded.map_eq_ok_iff _ _ _ _).mp h
    exact ⟨_, .word f w, (decodeWord_eq_ok_iff _ _ _).mp hw⟩
  | idx f =>
    obtain ⟨ix, hix, rfl⟩ := (Decoded.map_eq_ok_iff _ _ _ _).mp h
    obtain ⟨hwf, hbs⟩ := (decodeIndexed_eq_ok_iff _ _ _).mp hix
    exact ⟨_, .idx f ix hwf, hbs⟩
  | pair f =>
    obtain ⟨⟨r, q⟩, hrq, rfl⟩ := (Decoded.map_eq_ok_iff _ _ _ _).mp h
    obtain ⟨hwf, hbs⟩ := (decodePair_eq_ok_iff _ _ _ _).mp hrq
    exact ⟨_, .pair f r q hwf, hbs⟩

/-! ### The opcode map (R121, R146 to R148) -/

/-- The bytes `pre` are the opcode of a row of the opcode map, with the byte of its page. -/
inductive Opcode : List Byte → Shape → Prop where
  | page1 (op : Byte) (sh : Shape) (h2 : op ≠ 0x10#8) (h3 : op ≠ 0x11#8) (h : page1[op.toNat]?.join = some sh) :
    Opcode [op] sh
  | page2 (op : Byte) (sh : Shape) (h : lookup op page2 = some sh) : Opcode [0x10#8, op] sh
  | page3 (op : Byte) (sh : Shape) (h : lookup op page3 = some sh) : Opcode [0x11#8, op] sh

theorem Opcode.decode {pre : List Byte} {sh : Shape} (h : Opcode pre sh) (bs : List Byte) :
    Sys2Proof.decode (pre ++ bs) = sh.decode bs := by
  cases h with
  | page1 op sh h2 h3 h => simp [Sys2Proof.decode, h2, h3, h, decodeAfter]
  | page2 op sh h => simp [Sys2Proof.decode, decodePage, h, decodeAfter]
  | page3 op sh h => simp [Sys2Proof.decode, decodePage, h, decodeAfter]

theorem decodeAfter_eq_ok {page : Nat} {op : Byte} {o : Option Shape} {bs rest : List Byte} {i : Instr}
    (h : decodeAfter page op o bs = .ok (i, rest)) : ∃ sh, o = some sh ∧ sh.decode bs = .ok (i, rest) := by
  match o with
  | none => contradiction
  | some sh => exact ⟨sh, rfl, h⟩

theorem decodePage_eq_ok {page : Nat} {rows : List (Byte × Shape)} {bs rest : List Byte} {i : Instr}
    (h : decodePage page rows bs = .ok (i, rest)) :
    ∃ op tail sh, bs = op :: tail ∧ lookup op rows = some sh ∧ sh.decode tail = .ok (i, rest) := by
  match bs with
  | [] => contradiction
  | op :: tail =>
    obtain ⟨sh, hsh, hdec⟩ := decodeAfter_eq_ok h
    exact ⟨op, tail, sh, rfl, hsh, hdec⟩

/-- Whatever decodes begins with an opcode of the map. -/
theorem exists_opcode_of_decode {bs rest : List Byte} {i : Instr} (h : decode bs = .ok (i, rest)) :
    ∃ pre sh tail, Opcode pre sh ∧ bs = pre ++ tail ∧ sh.decode tail = .ok (i, rest) := by
  match bs with
  | [] => contradiction
  | op :: tail =>
    unfold decode at h
    dsimp only at h
    split_ifs at h with h2 h3
    · obtain ⟨op', tail', sh, rfl, hsh, hdec⟩ := decodePage_eq_ok h
      exact ⟨_, sh, tail', .page2 op' sh hsh, by rw [h2]; rfl, hdec⟩
    · obtain ⟨op', tail', sh, rfl, hsh, hdec⟩ := decodePage_eq_ok h
      exact ⟨_, sh, tail', .page3 op' sh hsh, by rw [h3]; rfl, hdec⟩
    · obtain ⟨sh, hsh, hdec⟩ := decodeAfter_eq_ok h
      exact ⟨_, sh, tail, .page1 op sh h2 h3 hsh, rfl, hdec⟩

/-- The decoder answers an instruction exactly when the bytes are an opcode of the map and an operand of its shape. -/
theorem decode_eq_ok_iff (bs rest : List Byte) (i : Instr) :
    decode bs = .ok (i, rest) ↔ ∃ pre sh ops, Opcode pre sh ∧ sh.Names i ops ∧ bs = pre ++ ops ++ rest := by
  constructor
  · intro h
    obtain ⟨pre, sh, tail, hop, rfl, hdec⟩ := exists_opcode_of_decode h
    obtain ⟨ops, hnames, rfl⟩ := Shape.names_of_decode hdec
    exact ⟨pre, sh, ops, hop, hnames, (List.append_assoc ..).symm⟩
  · rintro ⟨pre, sh, ops, hop, hnames, rfl⟩
    rw [List.append_assoc, hop.decode, hnames.decode]

/-! ### The encoder against the opcode map -/

/-- Every well-formed instruction of the shape is encoded by the opcode `pre` and its operand. -/
inductive Shape.Encodes (pre : List Byte) : Shape → Prop where
  | inh {i : Instr} (hwf : i.wf = true) (henc : encode i = pre) : Shape.Encodes pre (.inh i)
  | byte {f : Byte → Instr} (hwf : ∀ v, (f v).wf = true) (henc : ∀ v, encode (f v) = pre ++ [v]) :
    Shape.Encodes pre (.byte f)
  | word {f : Word → Instr} (hwf : ∀ w, (f w).wf = true) (henc : ∀ w, encode (f w) = pre ++ wordBytes w) :
    Shape.Encodes pre (.word f)
  | idx {f : Indexed → Instr} (hwf : ∀ ix, (f ix).wf = ix.wf) (henc : ∀ ix, encode (f ix) = pre ++ encodeIndexed ix) :
    Shape.Encodes pre (.idx f)
  | pair {f : Reg → Reg → Instr} (hwf : ∀ r q, (f r q).wf = pairWf r q)
    (henc : ∀ r q, encode (f r q) = pre ++ [r.code ++ q.code]) : Shape.Encodes pre (.pair f)

theorem Shape.Encodes.of_names {pre ops : List Byte} {sh : Shape} {i : Instr} (h : sh.Encodes pre)
    (hnames : sh.Names i ops) : i.wf = true ∧ encode i = pre ++ ops := by
  cases h with
  | inh hwf henc => cases hnames; exact ⟨hwf, henc.trans (List.append_nil pre).symm⟩
  | byte hwf henc => cases hnames; exact ⟨hwf _, henc _⟩
  | word hwf henc => cases hnames; exact ⟨hwf _, henc _⟩
  | idx hwf henc => cases hnames with | idx _ ix h => exact ⟨(hwf ix).trans h, henc ix⟩
  | pair hwf henc => cases hnames with | pair _ r q h => exact ⟨(hwf r q).trans h, henc r q⟩

/-- The shapes of a part of page 1, for the opcodes from `n` on and below `m`, agree with the encoder. -/
inductive RowEncodes : Nat → List (Option Shape) → Nat → Prop where
  | nil (n : Nat) : RowEncodes n [] n
  | illegal {n m : Nat} {row : List (Option Shape)} (h : RowEncodes (n + 1) row m) : RowEncodes n (none :: row) m
  | legal {n m : Nat} {sh : Shape} {row : List (Option Shape)} (hsh : sh.Encodes [BitVec.ofNat 8 n])
    (h : RowEncodes (n + 1) row m) : RowEncodes n (some sh :: row) m

theorem RowEncodes.append {n m l : Nat} {xs ys : List (Option Shape)} (hx : RowEncodes n xs m) (hy : RowEncodes m ys l) :
    RowEncodes n (xs ++ ys) l := by
  induction hx with
  | nil n => exact hy
  | illegal _ ih => exact .illegal (ih hy)
  | legal hsh _ ih => exact .legal hsh (ih hy)

theorem RowEncodes.encodes {n m k : Nat} {row : List (Option Shape)} {sh : Shape} (h : RowEncodes n row m)
    (hk : row[k]?.join = some sh) : sh.Encodes [BitVec.ofNat 8 (n + k)] := by
  induction h generalizing k with
  | nil n => simp at hk
  | illegal _ ih =>
    cases k with
    | zero => simp at hk
    | succ k =>
      rw [← Nat.add_assoc, Nat.add_right_comm]
      exact ih (by simpa using hk)
  | legal hsh _ ih =>
    cases k with
    | zero =>
      obtain rfl := Option.some.inj hk
      exact hsh
    | succ k =>
      rw [← Nat.add_assoc, Nat.add_right_comm]
      exact ih (by simpa using hk)

theorem mem_of_lookup {op : Byte} {rows : List (Byte × Shape)} {sh : Shape} (h : lookup op rows = some sh) :
    (op, sh) ∈ rows := by
  induction rows with
  | nil => contradiction
  | cons r rest ih =>
    unfold lookup at h
    split at h
    · next hr =>
      obtain ⟨op', sh'⟩ := r
      obtain ⟨rfl, rfl⟩ : op' = op ∧ sh' = sh := ⟨hr, by simpa using h⟩
      exact List.mem_cons_self
    · exact List.mem_cons_of_mem _ (ih h)

theorem page1Rows_encode :
    RowEncodes 0x00 page1Row0 0x10 ∧ RowEncodes 0x10 page1Row1 0x20 ∧ RowEncodes 0x20 page1Row2 0x30 ∧
    RowEncodes 0x30 page1Row3 0x40 ∧ RowEncodes 0x40 page1Row4 0x50 ∧ RowEncodes 0x50 page1Row5 0x60 ∧
    RowEncodes 0x60 page1Row6 0x70 ∧ RowEncodes 0x70 page1Row7 0x80 ∧ RowEncodes 0x80 page1Row8 0x90 ∧
    RowEncodes 0x90 page1Row9 0xA0 ∧ RowEncodes 0xA0 page1RowA 0xB0 ∧ RowEncodes 0xB0 page1RowB 0xC0 ∧
    RowEncodes 0xC0 page1RowC 0xD0 ∧ RowEncodes 0xD0 page1RowD 0xE0 ∧ RowEncodes 0xE0 page1RowE 0xF0 ∧
    RowEncodes 0xF0 page1RowF 0x100 := by
  repeat' constructor
  all_goals
    intros
    rfl

theorem page1_encodes : RowEncodes 0x00 page1 0x100 := by
  obtain ⟨h0, h1, h2, h3, h4, h5, h6, h7, h8, h9, hA, hB, hC, hD, hE, hF⟩ := page1Rows_encode
  exact h0.append h1 |>.append h2 |>.append h3 |>.append h4 |>.append h5 |>.append h6 |>.append h7 |>.append h8
    |>.append h9 |>.append hA |>.append hB |>.append hC |>.append hD |>.append hE |>.append hF

theorem page2_encodes : ∀ row ∈ page2, row.2.Encodes [0x10#8, row.1] := by
  rw [← List.forall_iff_forall_mem]
  repeat' constructor
  all_goals
    intros
    rfl

theorem page3_encodes : ∀ row ∈ page3, row.2.Encodes [0x11#8, row.1] := by
  rw [← List.forall_iff_forall_mem]
  repeat' constructor
  all_goals
    intros
    rfl

theorem Opcode.encodes {pre : List Byte} {sh : Shape} (h : Opcode pre sh) : sh.Encodes pre := by
  cases h with
  | page1 op sh h2 h3 h =>
    have henc := page1_encodes.encodes h
    rwa [Nat.zero_add, BitVec.ofNat_toNat, BitVec.setWidth_eq] at henc
  | page2 op sh h => exact page2_encodes _ (mem_of_lookup h)
  | page3 op sh h => exact page3_encodes _ (mem_of_lookup h)

/-- The encoding of `i` is an opcode of the map and an operand of its shape. -/
def Instr.Mapped (i : Instr) : Prop := ∃ pre sh ops, Opcode pre sh ∧ sh.Names i ops ∧ encode i = pre ++ ops

section
variable {i : Instr} {op : Byte} {sh : Shape} {ops : List Byte}

theorem Instr.mapped_of_page1 (h2 : op ≠ 0x10#8) (h3 : op ≠ 0x11#8) (hsh : page1[op.toNat]?.join = some sh)
    (hnames : sh.Names i ops) (henc : encode i = op :: ops) : i.Mapped :=
  ⟨_, _, _, .page1 _ _ h2 h3 hsh, hnames, henc⟩

theorem Instr.mapped_of_page2 (hsh : lookup op page2 = some sh) (hnames : sh.Names i ops)
    (henc : encode i = 0x10#8 :: op :: ops) : i.Mapped :=
  ⟨_, _, _, .page2 _ _ hsh, hnames, henc⟩

theorem Instr.mapped_of_page3 (hsh : lookup op page3 = some sh) (hnames : sh.Names i ops)
    (henc : encode i = 0x11#8 :: op :: ops) : i.Mapped :=
  ⟨_, _, _, .page3 _ _ hsh, hnames, henc⟩

end

/-- Every instruction that is well-formed has its row; those of pages 2 and 3 come first. -/
theorem Instr.mapped {i : Instr} (hwf : i.wf = true) : i.Mapped := by
  cases i
  case lbrn | lbhi | lbls | lbhs | lblo | lbne | lbeq | lbvc | lbvs | lbpl | lbmi | lbge | lblt | lbgt | lble |
      swi2 | cmpdImm | cmpyImm | ldyImm | cmpdDir | cmpyDir | ldyDir | styDir | cmpdIdx | cmpyIdx | ldyIdx | styIdx |
      cmpdExt | cmpyExt | ldyExt | styExt | ldsImm | ldsDir | stsDir | ldsIdx | stsIdx | ldsExt | stsExt =>
    exact Instr.mapped_of_page2 rfl (by constructor <;> exact hwf) rfl
  case swi3 | cmpuImm | cmpsImm | cmpuDir | cmpsDir | cmpuIdx | cmpsIdx | cmpuExt | cmpsExt =>
    exact Instr.mapped_of_page3 rfl (by constructor <;> exact hwf) rfl
  all_goals exact Instr.mapped_of_page1 (by decide) (by decide) rfl (by constructor <;> exact hwf) rfl

/-! ### The round trip -/

/-- The decoder answers an instruction exactly when it is well-formed and the bytes begin with its encoding. -/
theorem decode_eq_ok_iff_encode (bs rest : List Byte) (i : Instr) :
    decode bs = .ok (i, rest) ↔ i.wf = true ∧ encode i ++ rest = bs := by
  rw [decode_eq_ok_iff]
  constructor
  · rintro ⟨pre, sh, ops, hop, hnames, rfl⟩
    obtain ⟨hwf, henc⟩ := hop.encodes.of_names hnames
    exact ⟨hwf, by rw [henc]⟩
  · rintro ⟨hwf, rfl⟩
    obtain ⟨pre, sh, ops, hop, hnames, henc⟩ := Instr.mapped hwf
    exact ⟨pre, sh, ops, hop, hnames, by rw [henc]⟩

/-- Settles O1: one direction of `decode_eq_ok_iff_encode`. -/
theorem encodeThenDecode : Obligations.EncodeThenDecode :=
  fun i rest hwf => (decode_eq_ok_iff_encode _ rest i).mpr ⟨hwf, rfl⟩

/-- Settles O2: the other direction of `decode_eq_ok_iff_encode`. -/
theorem decodeThenEncode : Obligations.DecodeThenEncode :=
  fun bs i rest h => (decode_eq_ok_iff_encode bs rest i).mp h

/-- Settles O3: decoding evaluates on closed bytes. -/
theorem decodesTheseWords : Obligations.DecodesTheseWords := by
  refine ⟨?_, ?_, ?_, ?_, ?_, ?_, ?_, ?_⟩ <;> rfl

/-! ### Illegal opcodes (R121, R149) -/

/-- What has been decoded, if it was rejected, was not rejected for its opcode. -/
def Decoded.OpcodeTaken {α : Type} (d : Decoded α) : Prop := ∀ page op, d ≠ .error (.illegalOpcode page op)

theorem Decoded.opcodeTaken_ok {α : Type} (v : α × List Byte) : Decoded.OpcodeTaken (.ok v) :=
  fun _ _ h => nomatch h

theorem Decoded.opcodeTaken_truncated {α : Type} : Decoded.OpcodeTaken (α := α) (.error .truncated) :=
  fun _ _ h => nomatch h

theorem Decoded.opcodeTaken_illegalIndexed {α : Type} (pb : Byte) :
    Decoded.OpcodeTaken (α := α) (.error (.illegalIndexed pb)) :=
  fun _ _ h => nomatch h

theorem Decoded.opcodeTaken_illegalRegisterPair {α : Type} (pb : Byte) :
    Decoded.OpcodeTaken (α := α) (.error (.illegalRegisterPair pb)) :=
  fun _ _ h => nomatch h

theorem Decoded.OpcodeTaken.map {α β : Type} (f : α → β) {d : Decoded α} (h : d.OpcodeTaken) :
    (Decoded.map f d).OpcodeTaken := by
  cases d with
  | ok v => exact Decoded.opcodeTaken_ok _
  | error e =>
    rintro page op ⟨⟩
    exact h page op rfl

theorem decodeByte_opcodeTaken (bs : List Byte) : (decodeByte bs).OpcodeTaken := by
  unfold decodeByte
  split
  · exact Decoded.opcodeTaken_ok _
  · exact Decoded.opcodeTaken_truncated

theorem decodeWord_opcodeTaken (bs : List Byte) : (decodeWord bs).OpcodeTaken := by
  unfold decodeWord
  split
  · exact Decoded.opcodeTaken_ok _
  · exact Decoded.opcodeTaken_truncated

theorem decodeIndexedForm_opcodeTaken (pb : Byte) (bs : List Byte) : (decodeIndexedForm pb bs).OpcodeTaken := by
  unfold decodeIndexedForm
  dsimp only
  split
  case h_1 | h_3 =>
    split
    · exact Decoded.opcodeTaken_illegalIndexed pb
    · exact Decoded.opcodeTaken_ok _
  case h_8 | h_11 => exact (decodeByte_opcodeTaken bs).map _
  case h_9 | h_12 => exact (decodeWord_opcodeTaken bs).map _
  case h_13 =>
    split
    · exact (decodeWord_opcodeTaken bs).map _
    · exact Decoded.opcodeTaken_illegalIndexed pb
  case h_14 => exact Decoded.opcodeTaken_illegalIndexed pb
  all_goals exact Decoded.opcodeTaken_ok _

theorem decodeIndexed_opcodeTaken (bs : List Byte) : (decodeIndexed bs).OpcodeTaken := by
  unfold decodeIndexed
  split
  · exact Decoded.opcodeTaken_truncated
  · split
    · exact decodeIndexedForm_opcodeTaken _ _
    · exact Decoded.opcodeTaken_ok _

theorem decodePair_opcodeTaken (bs : List Byte) : (decodePair bs).OpcodeTaken := by
  unfold decodePair
  split
  · exact Decoded.opcodeTaken_truncated
  · split
    · split
      · exact Decoded.opcodeTaken_ok _
      · exact Decoded.opcodeTaken_illegalRegisterPair _
    · exact Decoded.opcodeTaken_illegalRegisterPair _

/-- Once a shape has been found, the opcode is not at fault. -/
theorem Shape.decode_opcodeTaken (sh : Shape) (bs : List Byte) : (sh.decode bs).OpcodeTaken := by
  cases sh with
  | inh i => exact Decoded.opcodeTaken_ok _
  | byte f => exact (decodeByte_opcodeTaken bs).map f
  | word f => exact (decodeWord_opcodeTaken bs).map f
  | idx f => exact (decodeIndexed_opcodeTaken bs).map f
  | pair f => exact (decodePair_opcodeTaken bs).map _

theorem decodeAfter_illegalOpcode_iff (page q : Nat) (op p : Byte) (o : Option Shape) (bs : List Byte) :
    decodeAfter page op o bs = .error (.illegalOpcode q p) ↔ o = none ∧ page = q ∧ op = p := by
  cases o with
  | none => simp [decodeAfter]
  | some sh => simpa [decodeAfter] using sh.decode_opcodeTaken bs q p

theorem decodePage_cons_illegalOpcode_iff (page : Nat) (rows : List (Byte × Shape)) (op : Byte) (rest : List Byte) :
    decodePage page rows (op :: rest) = .error (.illegalOpcode page op) ↔ lookup op rows = none := by
  simp [decodePage, decodeAfter_illegalOpcode_iff]

/-- After the byte of a page, an opcode is rejected on that page only. -/
theorem decodePage_ne_illegalOpcode {page q : Nat} (hq : page ≠ q) (rows : List (Byte × Shape)) (bs : List Byte)
    (op : Byte) : decodePage page rows bs ≠ .error (.illegalOpcode q op) := by
  cases bs with
  | nil => exact Decoded.opcodeTaken_truncated q op
  | cons b tail => simp [decodePage, decodeAfter_illegalOpcode_iff, hq]

theorem lookup_eq_none_iff (op : Byte) (rows : List (Byte × Shape)) :
    lookup op rows = none ↔ op ∉ rows.map Prod.fst := by
  induction rows with
  | nil => simp [lookup]
  | cons r rest ih =>
    unfold lookup
    by_cases hr : r.1 = op
    · simp [hr]
    · simpa [hr, Ne.symm hr] using ih

/-- An opcode byte is illegal on page 1 when it names no other page and has no row. -/
theorem decode_illegalOpcode1_iff (op : Byte) (rest : List Byte) :
    decode (op :: rest) = .error (.illegalOpcode 1 op) ↔
      op ≠ 0x10#8 ∧ op ≠ 0x11#8 ∧ page1[op.toNat]?.join = none := by
  unfold decode
  dsimp only
  split_ifs with h2 h3
  · simp [h2, decodePage_ne_illegalOpcode]
  · simp [h3, decodePage_ne_illegalOpcode]
  · simp [h2, h3, decodeAfter_illegalOpcode_iff]

/-- Settles O4: the listed bytes against the rows of each page. -/
theorem illegalOpcodes : Obligations.IllegalOpcodes := by
  refine ⟨fun op rest => ?_, fun op rest => ?_, fun op rest => ?_⟩
  · rw [decode_illegalOpcode1_iff, ← Option.isNone_iff_eq_none]
    revert op
    decide
  · have hpage : decode (0x10 :: op :: rest) = decodePage 2 page2 (op :: rest) := rfl
    rw [hpage, decodePage_cons_illegalOpcode_iff, lookup_eq_none_iff]
    exact not_congr (List.Perm.mem_iff (by decide))
  · have hpage : decode (0x11 :: op :: rest) = decodePage 3 page3 (op :: rest) := rfl
    rw [hpage, decodePage_cons_illegalOpcode_iff, lookup_eq_none_iff]
    exact not_congr (List.Perm.mem_iff (by decide))

end Sys2Proof

/-! ## Effective addresses and operands (spec/30_encoding.md R123 to R135)

The address of a form is an integer modulo 2^16 and its step a change of one register; what follows is bus reads. -/

namespace Sys2Proof.Reference
open Sys2Proof.Machine

/-! ### Reading twice -/

theorem cleared_twice {c d e : Byte} (hd : d = c ∨ d = c &&& 0x3F#8) (he : e = d ∨ e = d &&& 0x3F#8) :
    e = c ∨ e = c &&& 0x3F#8 := by
  rcases hd with rfl | rfl
  · exact he
  · rcases he with rfl | rfl
    · exact .inr rfl
    · exact .inr (by rw [BitVec.and_assoc, BitVec.and_self])

theorem FlagsCleared.trans {p q r : Pia} (hpq : FlagsCleared p q) (hqr : FlagsCleared q r) : FlagsCleared p r := by
  obtain ⟨hq, hqa, hqb⟩ := hpq
  obtain ⟨hr, hra, hrb⟩ := hqr
  refine ⟨?_, cleared_twice hqa hra, cleared_twice hqb hrb⟩
  rw [hr, hq]

theorem TransferAdvanced.trans {c d e : Disk} (hcd : TransferAdvanced c d) (hde : TransferAdvanced d e) :
    TransferAdvanced c e := by
  unfold TransferAdvanced at *
  rw [hde, hcd]

theorem ReadOnly.trans {s t u : State} (hst : ReadOnly s t) (htu : ReadOnly t u) : ReadOnly s u := by
  obtain ⟨regs, cpuState, lines, lastPc, lastBytes, mem, tags, exe, dev, pia0, pia1, disk, host⟩ := hst
  obtain ⟨regs', cpuState', lines', lastPc', lastBytes', mem', tags', exe', dev', pia0', pia1', disk', host'⟩ := htu
  refine ⟨regs'.trans regs, cpuState'.trans cpuState, lines'.trans lines, lastPc'.trans lastPc,
    lastBytes'.trans lastBytes, mem'.trans mem, tags'.trans tags, exe'.trans exe, ?_, pia0.trans pia0',
    pia1.trans pia1', disk.trans disk', ?_⟩
  · rw [dev', dev]
  · rw [host', host]

theorem Plain.of_tags_eq {s t : State} {a : Word} (h : Plain s a) (htags : t.tags = s.tags) : Plain t a := by
  simpa only [Plain, State.tagOf, htags] using h

theorem PlainFrom.of_tags_eq {s t : State} {a : Word} {n : Nat} (h : PlainFrom s a n) (htags : t.tags = s.tags) :
    PlainFrom t a n :=
  fun k hk => (h k hk).of_tags_eq htags

end Sys2Proof.Reference

namespace Sys2Proof.Machine
open Sys2Proof.Reference

theorem State.peek_congr {s t : State} (hmem : t.mem = s.mem) (a : Word) : t.peek a = s.peek a := by
  rw [State.peek, hmem, State.peek]

theorem wordAt_congr {s t : State} (hmem : t.mem = s.mem) (a : Word) : wordAt t a = wordAt s a := by
  rw [wordAt, State.peek_congr hmem, State.peek_congr hmem, wordAt]

theorem State.readWord_readOnly (a : Word) (s : State) : ReadOnly s (s.readWord a).2 :=
  (s.readByte_readOnly a).trans ((s.readByte a).2.readByte_readOnly (a + 1#16))

/-! ### The address of a form (R131 to R133) -/

theorem ofInt_toNat_add (a : Word) (n : Int) : BitVec.ofInt 16 (a.toNat + n) = a + BitVec.ofInt 16 n := by
  rw [BitVec.ofInt_add, BitVec.ofInt_natCast, BitVec.ofNat_toNat, BitVec.setWidth_eq]

/-- The address of a form, on integers modulo 2^16. -/
theorem indexAddress_fst (f : IndexForm) (r : Regs) : (indexAddress f r).1 = BitVec.ofInt 16 (indexTarget f r) := by
  cases f
  case inc1 | inc2 | zero | ext => simp [indexAddress, indexTarget]
  case dec1 | dec2 =>
    simp only [indexAddress, indexTarget, Int.sub_eq_add_neg, ofInt_toNat_add]
    exact BitVec.sub_eq_add_neg _ _
  case accD =>
    simp only [indexAddress, indexTarget, ofInt_toNat_add, Regs.d, joinBytes_eq_ofNat]
    rfl
  case off16 | pcr16 => simp only [indexAddress, indexTarget, ofInt_toNat_add, BitVec.ofInt_toInt]
  case off5 | accA | accB | off8 | pcr8 =>
    simp only [indexAddress, indexTarget, ofInt_toNat_add]
    rfl

/-- The step of a form. -/
theorem indexAddress_snd (f : IndexForm) (r : Regs) : (indexAddress f r).2 = stepped f r := by
  cases f
  case inc1 k | inc2 k => cases k <;> rfl
  case dec1 k | dec2 k =>
    simp only [indexAddress, BitVec.sub_eq_add_neg]
    cases k <;> rfl
  all_goals rfl

/-- An indexed operand without indirection. -/
theorem State.indexedEA_direct (f : IndexForm) (s : State) :
    s.indexedEA ⟨f, false⟩ = (BitVec.ofInt 16 (indexTarget f s.regs), { s with regs := stepped f s.regs }) := by
  rw [← indexAddress_fst, ← indexAddress_snd]
  rfl

/-- An indexed operand with indirection reads its pointer at the address of the form. -/
theorem State.indexedEA_indirect (f : IndexForm) (s : State) :
    s.indexedEA ⟨f, true⟩ =
      ({ s with regs := stepped f s.regs } : State).readWord (BitVec.ofInt 16 (indexTarget f s.regs)) := by
  rw [← indexAddress_fst, ← indexAddress_snd]
  rfl

/-- Settles O18: `joinBytes_eq_ofNat` for direct, then the two kinds of indexed operand. -/
theorem effectiveAddresses : Obligations.EffectiveAddresses := by
  intro s
  refine ⟨fun lo => ?_, fun _ => rfl, fun f => s.indexedEA_direct f, fun f hplain => ?_⟩
  · rw [State.ea, joinBytes_eq_ofNat]
  · have hstepped : PlainFrom { s with regs := stepped f s.regs } (BitVec.ofInt 16 (indexTarget f s.regs)) 2 := hplain
    rw [State.ea, State.indexedEA_indirect, State.readWord_plainFrom hstepped]
    rfl

/-! ### What an operand changes (R127, R133) -/

theorem State.ea_readOnly (m : MemOperand) (s : State) :
    ReadOnly { s with regs := steppedMem m s.regs } (s.ea m).2 := by
  cases m with
  | dir lo => exact .refl s
  | ext a => exact .refl s
  | idx ix =>
    obtain ⟨f, indirect⟩ := ix
    cases indirect with
    | false =>
      rw [State.ea, State.indexedEA_direct]
      exact .refl _
    | true =>
      rw [State.ea, State.indexedEA_indirect]
      exact State.readWord_readOnly _ _

theorem State.operand8_readOnly (o : Operand8) (s : State) :
    ReadOnly { s with regs := stepped8 o s.regs } (s.operand8 o).2 := by
  cases o with
  | imm v => exact .refl s
  | mem m => exact (s.ea_readOnly m).trans (State.readByte_readOnly _ _)

theorem State.operand16_readOnly (o : Operand16) (s : State) :
    ReadOnly { s with regs := stepped16 o s.regs } (s.operand16 o).2 := by
  cases o with
  | imm v => exact .refl s
  | mem m => exact (s.ea_readOnly m).trans (State.readWord_readOnly _ _)

theorem State.operand8_mem_plain {m : MemOperand} {s : State} (h : Plain s (s.ea m).1) :
    (s.operand8 (.mem m)).1 = s.peek (s.ea m).1 := by
  have hplain : Plain (s.ea m).2 (s.ea m).1 := h.of_tags_eq (State.ea_tags m s)
  rw [State.operand8, State.readByte_plain hplain, State.peek_congr (State.ea_mem m s)]

theorem State.operand16_mem_plain {m : MemOperand} {s : State} (h : PlainFrom s (s.ea m).1 2) :
    (s.operand16 (.mem m)).1 = wordAt s (s.ea m).1 := by
  have hplain : PlainFrom (s.ea m).2 (s.ea m).1 2 := h.of_tags_eq (State.ea_tags m s)
  rw [State.operand16, State.readWord_plainFrom hplain, wordAt_congr (State.ea_mem m s)]

/-- Settles O19: the reads of each operand, after the step of its address. -/
theorem operandReads : Obligations.OperandReads :=
  fun s => ⟨fun m => s.ea_readOnly m, fun o => s.operand8_readOnly o, fun o => s.operand16_readOnly o, fun _ => rfl,
    fun _ => rfl, fun _ h => State.operand8_mem_plain h, fun _ h => State.operand16_mem_plain h⟩

end Sys2Proof.Machine

/-! ## Transfers and stack lists (spec/40_load_store.md R200 to R213)

A register reads as what was written to it; a list pushed or pulled is one step per register, taken or left out. -/

namespace Sys2Proof.Machine
open Sys2Proof.Reference

/-! ### Registers (R31, R140) -/

theorem CC.toByte_ofByte (b : Byte) : (CC.ofByte b).toByte = b := by
  revert b
  decide

theorem loByte_zext8 (b : Byte) : loByte (zext8 b) = b := by
  revert b
  decide

/-- The value of an 8-bit register is its own low byte, zero-extended. -/
theorem Regs.zext8_loByte_get {k : Reg} (h : k.is16 = false) (r : Regs) : zext8 (loByte (r.get k)) = r.get k := by
  cases k
  case a | b | cc | dp => rw [Regs.get, loByte_zext8]
  all_goals contradiction

/-- A register reads as the value written to it, where that is a value of its size. -/
theorem Regs.get_put_same {k : Reg} {v : Word} (h : k.is16 = false → zext8 (loByte v) = v) (r : Regs) :
    (r.put k v).get k = v := by
  cases k
  case d => exact joinBytes_hiByte_loByte v
  case x | y | u | s | pc => rfl
  case a | b | dp => exact h rfl
  case cc =>
    rw [Regs.put, Regs.get, CC.toByte_ofByte]
    exact h rfl

/-- A register reads as the value of a register of its size that was written to it. -/
theorem Regs.get_put_get {src dst : Reg} (h : src.is16 = dst.is16) (r g : Regs) :
    (r.put dst (g.get src)).get dst = g.get src :=
  Regs.get_put_same (fun hdst => Regs.zext8_loByte_get (h.trans hdst) g) r

/-- A write to a register leaves every other that is neither a half nor the whole of it. -/
theorem Regs.get_put_other {k q : Reg} (h : overlaps k q = false) (v : Word) (r : Regs) :
    (r.put q v).get k = r.get k := by
  cases q <;> cases k <;> first | rfl | contradiction

theorem overlaps_of_is16_eq {r q : Reg} (hsize : r.is16 = q.is16) (hne : r ≠ q) : overlaps r q = false := by
  cases r
  case d => cases q <;> first | contradiction | rfl
  case a | b => cases q <;> first | contradiction | rfl
  all_goals simpa [overlaps] using hne

/-! ### TFR and EXG (R200, R201) -/

section
variable {r1 r2 : Reg} (s : State)

theorem State.transfer_eq (h : r1.is16 = r2.is16) :
    s.transfer r1 r2 =
      { s with
        regs := s.regs.put r2 (s.regs.get r1)
        lines := { s.lines with nmiArmed := s.lines.nmiArmed || r2 == .s } } := by
  rw [State.transfer, if_pos h, State.writeReg_eq]

theorem State.exchange_eq (h : r1.is16 = r2.is16) :
    s.exchange r1 r2 =
      { s with
        regs := (s.regs.put r1 (s.regs.get r2)).put r2 (s.regs.get r1)
        lines := { s.lines with nmiArmed := s.lines.nmiArmed || r1 == .s || r2 == .s } } := by
  rw [State.exchange, if_pos h, State.writeReg_eq, State.writeReg_eq]

theorem State.transfer_illegal (h : r1.is16 ≠ r2.is16) : s.transfer r1 r2 = s.raiseIllegal := if_neg h

theorem State.exchange_illegal (h : r1.is16 ≠ r2.is16) : s.exchange r1 r2 = s.raiseIllegal := if_neg h

end

/-- After both writes of an exchange the first register holds the second, also where they are one register. -/
theorem Regs.get_exchange_fst {r1 r2 : Reg} (h : r1.is16 = r2.is16) (r : Regs) :
    ((r.put r1 (r.get r2)).put r2 (r.get r1)).get r1 = r.get r2 := by
  by_cases hne : r1 = r2
  · subst hne
    exact Regs.get_put_get rfl _ _
  · rw [Regs.get_put_other (overlaps_of_is16_eq h hne), Regs.get_put_get h.symm]

/-- Settles O23: TFR is one register write and EXG two; of two registers of like size neither is a half of the other. -/
theorem transferAndExchange : Obligations.TransferAndExchange := by
  intro r1 r2 s
  refine ⟨fun h => ⟨⟨_, congrArg Host.Outcome.next (s.transfer_eq h), ?_, fun r hr => ?_, rfl⟩,
    ⟨_, congrArg Host.Outcome.next (s.exchange_eq h), ?_, ?_, fun r h1 h2 => ?_, rfl⟩⟩, fun h =>
    ⟨congrArg Host.Outcome.next (s.transfer_illegal h), congrArg Host.Outcome.next (s.exchange_illegal h)⟩⟩
  · exact Regs.get_put_get h _ _
  · exact Regs.get_put_other hr _ _
  · exact Regs.get_exchange_fst h _
  · exact Regs.get_put_get h _ _
  · exact (Regs.get_put_other h2 _ _).trans (Regs.get_put_other h1 _ _)

/-! ### Pushing a list (R142, R210, R211) -/

section
variable (k : StackReg) (v : Word) (r : Regs)

@[simp] theorem Regs.setBase_stack_x : (r.setBase k.reg v).x = r.x := by cases k <;> rfl
@[simp] theorem Regs.setBase_stack_y : (r.setBase k.reg v).y = r.y := by cases k <;> rfl
@[simp] theorem Regs.setBase_stack_other : k.other (r.setBase k.reg v) = k.other r := by cases k <;> rfl

end

section
variable {k : StackReg} {s t : State} {bs : List Byte} {n : Nat}

/-- A byte of a list, pushed when it is listed: it is a part of the registers that no push changes. -/
theorem State.Pushed.when8 (h : State.Pushed k s t bs) (hlen : bs.length ≤ n) (hn : n < 65536) (p : Bool)
    {f : Regs → Byte} (hf : ∀ v r, f (r.setBase k.reg v) = f r) :
    State.Pushed k s (t.when p fun t => t.push8 k (f t.regs)) ((if p then [f s.regs] else []) ++ bs) ∧
      ((if p then [f s.regs] else []) ++ bs).length ≤ n + 1 := by
  have hval : f t.regs = f s.regs := by rw [h.regs, hf]
  cases p with
  | false => exact ⟨h, Nat.le_succ_of_le hlen⟩
  | true =>
    rw [← hval]
    exact ⟨h.push8 (by omega) _, Nat.succ_le_succ hlen⟩

/-- A word of a list, pushed when it is listed. -/
theorem State.Pushed.when16 (h : State.Pushed k s t bs) (hlen : bs.length ≤ n) (hn : n < 65535) (p : Bool)
    {f : Regs → Word} (hf : ∀ v r, f (r.setBase k.reg v) = f r) :
    State.Pushed k s (t.when p fun t => t.push16 k (f t.regs)) ((if p then wordBytes (f s.regs) else []) ++ bs) ∧
      ((if p then wordBytes (f s.regs) else []) ++ bs).length ≤ n + 2 := by
  have hval : f t.regs = f s.regs := by rw [h.regs, hf]
  cases p with
  | false => exact ⟨h, Nat.le_add_right_of_le hlen⟩
  | true =>
    rw [← hval]
    exact ⟨h.push16 (by omega) _, Nat.succ_le_succ (Nat.succ_le_succ hlen)⟩

end

theorem length_ite_nil {α : Type} (p : Bool) (l : List α) : (if p then l else []).length = p.toNat * l.length := by
  cases p <;> simp

theorem length_listBytes (pb : Byte) (r : Regs) (other : Word) : (listBytes pb r other).length = listSize pb := by
  simp only [listBytes, listSize, wordBytes, List.length_append, length_ite_nil, List.length_cons, List.length_nil]
  omega

/-- The listed registers are pushed, CC at the lowest address. -/
theorem State.pushList_pushed (k : StackReg) (pb : Byte) (s : State) :
    State.Pushed k s (s.pushList k pb) (listBytes pb s.regs (k.other s.regs)) := by
  obtain ⟨hpc, len7⟩ := (State.Pushed.nil k s).when16 (Nat.le_refl 0) (by decide) (bit pb 7) (Regs.setBase_pc k.reg)
  obtain ⟨hother, len6⟩ := hpc.when16 len7 (by decide) (bit pb 6) (Regs.setBase_stack_other k)
  obtain ⟨hy, len5⟩ := hother.when16 len6 (by decide) (bit pb 5) (Regs.setBase_stack_y k)
  obtain ⟨hx, len4⟩ := hy.when16 len5 (by decide) (bit pb 4) (Regs.setBase_stack_x k)
  obtain ⟨hdp, len3⟩ := hx.when8 len4 (by decide) (bit pb 3) (Regs.setBase_dp k.reg)
  obtain ⟨hb, len2⟩ := hdp.when8 len3 (by decide) (bit pb 2) (Regs.setBase_b k.reg)
  obtain ⟨ha, len1⟩ := hb.when8 len2 (by decide) (bit pb 1) (Regs.setBase_a k.reg)
  obtain ⟨hcc, -⟩ := ha.when8 len1 (by decide) (bit pb 0)
    (f := fun r => r.cc.toByte) (fun v r => by rw [Regs.setBase_cc])
  rw [List.append_nil] at hcc
  simp only [listBytes, List.append_assoc]
  exact hcc

/-- Settles O24: a list is pushed through either pointer. -/
theorem pushResults : Obligations.PushResults := by
  intro pb s
  have hs := s.pushList_pushed .s pb
  have hu := s.pushList_pushed .u pb
  have hsize := length_listBytes pb s.regs
  refine ⟨⟨_, rfl, ?_⟩, ⟨_, rfl, ?_⟩⟩
  · rw [← hsize s.regs.u]
    exact ⟨hs.regs, hs.other, hs.ram⟩
  · rw [← hsize s.regs.s]
    exact ⟨hu.regs, hu.other, hu.ram⟩

/-! ### Pulling a list (R142, R212, R213) -/

/-- The register that a stack pointer is, which its own list never names. -/
def StackReg.ownReg (k : StackReg) : Reg :=
  match k with
  | .s => .s
  | .u => .u

theorem StackReg.get_ownReg (k : StackReg) (r : Regs) : r.get k.ownReg = r.base k.reg := by cases k <;> rfl

theorem StackReg.otherReg_ne_ownReg (k : StackReg) : k.otherReg ≠ k.ownReg := by cases k <;> decide

theorem StackReg.ne_ownReg (k : StackReg) {q : Reg} (hs : q ≠ .s) (hu : q ≠ .u) : q ≠ k.ownReg := by
  cases k
  · exact hs
  · exact hu

theorem Regs.put_base {k : StackReg} {q : Reg} (hq : q ≠ k.ownReg) (v : Word) (r : Regs) :
    (r.put q v).base k.reg = r.base k.reg := by
  cases k <;> cases q <;> first | contradiction | rfl

theorem Regs.put_setBase {k : StackReg} {q : Reg} (hq : q ≠ k.ownReg) (p v : Word) (r : Regs) :
    (r.setBase k.reg p).put q v = (r.put q v).setBase k.reg p := by
  cases k <;> cases q <;> first | contradiction | rfl

section
variable {k : StackReg} {q : Reg} (hq : q ≠ k.ownReg) (b : Bool) (s : State)
include hq

theorem State.when_pullReg8_base :
    (s.when b (State.pullReg8 k q)).regs.base k.reg = s.regs.base k.reg + BitVec.ofNat 16 b.toNat := by
  cases b
  · exact (BitVec.add_zero _).symm
  · simp [State.when, State.pullReg8, State.writeReg_eq, Regs.put_base hq]

theorem State.when_pullReg16_base :
    (s.when b (State.pullReg16 k q)).regs.base k.reg = s.regs.base k.reg + BitVec.ofNat 16 (2 * b.toNat) := by
  cases b
  · exact (BitVec.add_zero _).symm
  · simp [State.when, State.pullReg16, State.writeReg_eq, Regs.put_base hq]

end

/-- The size of a list, register by register in the order of a pull. -/
theorem listSize_eq (pb : Byte) :
    listSize pb = (bit pb 0).toNat + ((bit pb 1).toNat + ((bit pb 2).toNat + ((bit pb 3).toNat +
      (2 * (bit pb 4).toNat + (2 * (bit pb 5).toNat + (2 * (bit pb 6).toNat + 2 * (bit pb 7).toNat)))))) := by
  unfold listSize
  omega

/-- The pointer moves up by the size of the list, whatever the bytes are. -/
theorem State.pullList_base (k : StackReg) (pb : Byte) (s : State) :
    (s.pullList k pb).regs.base k.reg = s.regs.base k.reg + BitVec.ofNat 16 (listSize pb) := by
  unfold State.pullList
  dsimp only
  rw [State.when_pullReg16_base (q := .pc) (k.ne_ownReg (by decide) (by decide)),
    State.when_pullReg16_base k.otherReg_ne_ownReg,
    State.when_pullReg16_base (q := .y) (k.ne_ownReg (by decide) (by decide)),
    State.when_pullReg16_base (q := .x) (k.ne_ownReg (by decide) (by decide)),
    State.when_pullReg8_base (q := .dp) (k.ne_ownReg (by decide) (by decide)),
    State.when_pullReg8_base (q := .b) (k.ne_ownReg (by decide) (by decide)),
    State.when_pullReg8_base (q := .a) (k.ne_ownReg (by decide) (by decide)),
    State.when_pullReg8_base (q := .cc) (k.ne_ownReg (by decide) (by decide)), listSize_eq]
  simp only [BitVec.ofNat_add, BitVec.add_assoc]

/-- The state in a pull: the registers are `r`, but that the pointer `k` stands at `p`; NMI is armed if `armed`. -/
def State.filled (k : StackReg) (r : Regs) (p : Word) (armed : Bool) (s : State) : State :=
  { s with regs := r.setBase k.reg p, lines := { s.lines with nmiArmed := s.lines.nmiArmed || armed } }

theorem State.filled_start (k : StackReg) (s : State) : s.filled k s.regs (s.regs.base k.reg) false = s := by
  have hregs : s.regs.setBase k.reg (s.regs.base k.reg) = s.regs := by cases k <;> rfl
  rw [State.filled, hregs, Bool.or_false]

section
variable {k : StackReg} {s : State} {r : Regs} {p : Word} {armed : Bool} {q : Reg}

theorem State.writeReg_filled (hq : q ≠ k.ownReg) (v : Word) :
    (s.filled k r p armed).writeReg q v = s.filled k (r.put q v) p (armed || q == .s) := by
  rw [State.writeReg_eq, State.filled, State.filled, Regs.put_setBase hq, Bool.or_assoc]

theorem State.pull8_filled (h : Plain s p) :
    (s.filled k r p armed).pull8 k = (s.peek p, s.filled k r (p + 1#16) armed) := by
  have hbase : (s.filled k r p armed).regs.base k.reg = p := Regs.setBase_base ..
  have hplain : Plain (s.filled k r p armed) ((s.filled k r p armed).regs.base k.reg) := by rwa [hbase]
  rw [State.pull8_plain hplain, hbase, State.filled, State.filled, State.mapRegs, Regs.setBase_setBase]
  rfl

theorem State.pull16_filled (h : PlainFrom s p 2) :
    (s.filled k r p armed).pull16 k = (wordAt s p, s.filled k r (p + 2#16) armed) := by
  obtain ⟨hhi, hrest⟩ := (plainFrom_succ s p 1).mp h
  obtain ⟨hlo, -⟩ := (plainFrom_succ s (p + 1#16) 0).mp hrest
  have hnext : p + 1#16 + 1#16 = p + 2#16 := by bv_omega
  rw [State.pull16, State.pull8_filled hhi]
  dsimp only
  rw [State.pull8_filled hlo, wordAt_eq_joinBytes, hnext]

theorem State.pullReg8_filled (h : Plain s p) (hq : q ≠ k.ownReg) :
    (s.filled k r p armed).pullReg8 k q = s.filled k (r.put q (zext8 (s.peek p))) (p + 1#16) (armed || q == .s) := by
  rw [State.pullReg8, State.pull8_filled h]
  exact State.writeReg_filled hq _

theorem State.pullReg16_filled (h : PlainFrom s p 2) (hq : q ≠ k.ownReg) :
    (s.filled k r p armed).pullReg16 k q = s.filled k (r.put q (wordAt s p)) (p + 2#16) (armed || q == .s) := by
  rw [State.pullReg16, State.pull16_filled h]
  exact State.writeReg_filled hq _

end

/-- A pull from `s` has come to `t`: `v` is the registers filled and the bytes still to take, which are the `n` from the
pointer `p` on, in cells without side effects. -/
structure State.Pulling (k : StackReg) (s t : State) (v : Regs × List Byte) (p : Word) (n : Nat) (armed : Bool) :
    Prop where
  state : t = s.filled k v.1 p armed
  bytes : v.2 = bytesFrom s p n
  plain : PlainFrom s p n

theorem State.Pulling.start {k : StackReg} {s : State} {n : Nat} (h : PlainFrom s (s.regs.base k.reg) n) :
    State.Pulling k s s (s.regs, bytesFrom s (s.regs.base k.reg) n) (s.regs.base k.reg) n false :=
  ⟨(s.filled_start k).symm, rfl, h⟩

section
variable {k : StackReg} {s t : State} {v : Regs × List Byte} {p : Word} {n : Nat} {armed : Bool} {q : Reg}

/-- A register of one byte, pulled when it is listed. -/
theorem State.Pulling.when8 (b : Bool) (h : State.Pulling k s t v p (b.toNat + n) armed) (hs : q ≠ .s) (hu : q ≠ .u)
    {f : Byte → Regs → Regs} (hf : ∀ x r, r.put q (zext8 x) = f x r) :
    State.Pulling k s (t.when b (State.pullReg8 k q)) (take8 b f v) (p + BitVec.ofNat 16 b.toNat) n armed := by
  obtain ⟨r, bs⟩ := v
  cases b with
  | false => simpa [State.when, take8] using h
  | true =>
    obtain ⟨rfl, hbytes, hplain⟩ := h
    rw [Bool.toNat_true, Nat.add_comm] at hbytes hplain
    obtain ⟨hhead, htail⟩ := (plainFrom_succ s p n).mp hplain
    obtain rfl : bs = s.peek p :: bytesFrom s (p + 1#16) n := hbytes
    refine ⟨?_, rfl, htail⟩
    rw [State.when, if_pos rfl, State.pullReg8_filled hhead (k.ne_ownReg hs hu), hf, beq_false_of_ne hs, Bool.or_false]
    rfl

/-- A register of two bytes, pulled when it is listed; it is the other pointer that may arm NMI. -/
theorem State.Pulling.when16 (b : Bool) (h : State.Pulling k s t v p (2 * b.toNat + n) armed) (hq : q ≠ k.ownReg)
    {f : Word → Regs → Regs} (hf : ∀ w r, r.put q w = f w r) :
    State.Pulling k s (t.when b (State.pullReg16 k q)) (take16 b f v) (p + BitVec.ofNat 16 (2 * b.toNat)) n
      (armed || b && q == .s) := by
  obtain ⟨r, bs⟩ := v
  cases b with
  | false => simpa [State.when, take16] using h
  | true =>
    obtain ⟨rfl, hbytes, hplain⟩ := h
    have hnext : p + 1#16 + 1#16 = p + 2#16 := by bv_omega
    rw [Bool.toNat_true, Nat.add_comm] at hbytes hplain
    obtain ⟨hhi, hrest⟩ := (plainFrom_succ s p (n + 1)).mp hplain
    obtain ⟨hlo, htail⟩ := (plainFrom_succ s (p + 1#16) n).mp hrest
    have hword : PlainFrom s p 2 := fun j hj => hplain j (by omega)
    obtain rfl : bs = s.peek p :: s.peek (p + 1#16) :: bytesFrom s (p + 1#16 + 1#16) n := hbytes
    rw [hnext] at htail ⊢
    refine ⟨?_, rfl, htail⟩
    rw [State.when, if_pos rfl, State.pullReg16_filled hword hq, hf]
    rfl

theorem State.Pulling.when16_quiet (b : Bool) (h : State.Pulling k s t v p (2 * b.toNat + n) armed) (hs : q ≠ .s)
    (hu : q ≠ .u) {f : Word → Regs → Regs} (hf : ∀ w r, r.put q w = f w r) :
    State.Pulling k s (t.when b (State.pullReg16 k q)) (take16 b f v) (p + BitVec.ofNat 16 (2 * b.toNat)) n armed := by
  have hpull := h.when16 b (k.ne_ownReg hs hu) hf
  rwa [beq_false_of_ne hs, Bool.and_false, Bool.or_false] at hpull

end

/-- Where the stacked bytes have no handler, the listed registers are filled from them. -/
theorem State.pullList_plain {k : StackReg} {pb : Byte} {s : State} {other : Word → Regs → Regs}
    (hother : ∀ w r, r.put k.otherReg w = other w r) (h : PlainFrom s (s.regs.base k.reg) (listSize pb)) :
    s.pullList k pb =
      s.filled k (pulled pb other (bytesFrom s (s.regs.base k.reg) (listSize pb)) s.regs)
        (s.regs.base k.reg + BitVec.ofNat 16 (listSize pb)) (bit pb 6 && k.otherReg == .s) := by
  have hstart := State.Pulling.start h
  rw [listSize_eq] at hstart
  have hcc := hstart.when8 (bit pb 0) (q := .cc) (by decide) (by decide)
    (f := fun b r => { r with cc := CC.ofByte b }) (fun x r => by rw [Regs.put, loByte_zext8])
  have ha := hcc.when8 (bit pb 1) (q := .a) (by decide) (by decide)
    (f := fun b r => { r with a := b }) (fun x r => by rw [Regs.put, loByte_zext8])
  have hb := ha.when8 (bit pb 2) (q := .b) (by decide) (by decide)
    (f := fun b r => { r with b := b }) (fun x r => by rw [Regs.put, loByte_zext8])
  have hdp := hb.when8 (bit pb 3) (q := .dp) (by decide) (by decide)
    (f := fun b r => { r with dp := b }) (fun x r => by rw [Regs.put, loByte_zext8])
  have hx := hdp.when16_quiet (bit pb 4) (q := .x) (by decide) (by decide) (fun _ _ => rfl)
  have hy := hx.when16_quiet (bit pb 5) (q := .y) (by decide) (by decide) (fun _ _ => rfl)
  have hptr := hy.when16 (bit pb 6) k.otherReg_ne_ownReg hother
  have hpc := hptr.when16_quiet (n := 0) (bit pb 7) (q := .pc) (by decide) (by decide) (fun _ _ => rfl)
  rw [listSize_eq]
  refine hpc.state.trans ?_
  simp only [BitVec.ofNat_add, BitVec.add_assoc, Bool.false_or]
  rfl

/-- Settles O25: the pointer for every state, the registers where the stacked bytes have no handler. -/
theorem pullResults : Obligations.PullResults := by
  intro pb s
  have hmem : ∀ k, (s.pullList k pb).mem = s.mem := fun k => congrArg Contents.mem (s.pullList_contents k pb)
  refine ⟨⟨_, rfl, hmem .s, s.pullList_base .s pb⟩, ⟨_, rfl, hmem .u, s.pullList_base .u pb⟩, fun h => ?_,
    fun h => ?_⟩
  · have hpull := State.pullList_plain (k := .s) (other := putU) (fun _ _ => rfl) h
    have harmed : (bit pb 6 && StackReg.s.otherReg == .s) = false := Bool.and_false _
    rw [harmed, State.filled, Bool.or_false] at hpull
    exact congrArg Host.Outcome.next hpull
  · have hpull := State.pullList_plain (k := .u) (other := putS) (fun _ _ => rfl) h
    have harmed : (bit pb 6 && StackReg.u.otherReg == .s) = bit pb 6 := Bool.and_true _
    rw [harmed] at hpull
    exact congrArg Host.Outcome.next hpull

end Sys2Proof.Machine

/-! ## Loads, stores and effective addresses (spec/40_load_store.md R170 to R193)

Every mode of an operation runs the operation's one shape, and the flags of a value are its sign and zero. -/

namespace Sys2Proof.Machine
open Sys2Proof.Reference

/-! ### The flags of a value (R13) -/

/-- The top bit of a word of any width says that its number is in the upper half. -/
theorem getLsbD_pred_eq_decide {w : Nat} (v : BitVec w) : v.getLsbD (w - 1) = decide (2 ^ (w - 1) ≤ v.toNat) := by
  rw [← BitVec.msb_eq_getLsbD_last, BitVec.msb_eq_decide]

theorem beq_zero_eq_decide {w : Nat} (v : BitVec w) : (v == 0#w) = decide (v.toNat = 0) := by
  rw [Bool.eq_iff_iff, beq_iff_eq, decide_eq_true_iff, BitVec.toNat_eq, BitVec.toNat_zero]

theorem CC.nz8_eq_signZero8 (r : Byte) (cc : CC) : CC.nz8 r cc = signZero8 r cc := by
  rw [CC.nz8, signZero8, bit, getLsbD_pred_eq_decide r, beq_zero_eq_decide]
  rfl

theorem CC.nz16_eq_signZero16 (r : Word) (cc : CC) : CC.nz16 r cc = signZero16 r cc := by
  rw [CC.nz16, signZero16, getLsbD_pred_eq_decide r, beq_zero_eq_decide]
  rfl

theorem CC.nzv8_eq_value8 (r : Byte) (cc : CC) : CC.nzv8 r cc = value8 r cc := by
  rw [CC.nzv8, CC.nz8_eq_signZero8, value8]

theorem CC.nzv16_eq_value16 (r : Word) (cc : CC) : CC.nzv16 r cc = value16 r cc := by
  rw [CC.nzv16, CC.nz16_eq_signZero16, value16]

/-! ### The shape of each operation, in every mode -/

section
variable (s : State)

theorem exec_load8 (k : Acc) (o : Operand8) : exec (.load8 k o) s = .next (s.load8 k o) := by
  cases k <;> rcases o with v | lo | ix | a <;> rfl

theorem exec_load16 (k : Reg16) (o : Operand16) : exec (.load16 k o) s = .next (s.load16 k.reg o) := by
  cases k <;> rcases o with v | lo | ix | a <;> rfl

theorem exec_store8 (k : Acc) (m : MemOperand) : exec (.store8 k m) s = .next (s.store8 k m) := by
  cases k <;> cases m <;> rfl

theorem exec_store16 (k : Reg16) (m : MemOperand) : exec (.store16 k m) s = .next (s.store16 k.reg m) := by
  cases k <;> cases m <;> rfl

/-! ### Loads (R170 to R176) -/

theorem Reg16.reg_beq_s (k : Reg16) : (k.reg == .s) = (k == .s) := by cases k <;> rfl

/-- A 16-bit load: the register and the flags, and NMI armed where the register is S. -/
theorem State.load16_eq (k : Reg16) (o : Operand16) :
    s.load16 k.reg o =
      let m := s.operand16 o
      { m.2 with
        regs := { m.2.regs.put k.reg m.1 with cc := value16 m.1 m.2.regs.cc }
        lines := { m.2.lines with nmiArmed := m.2.lines.nmiArmed || k == .s } } := by
  rw [State.load16, State.writeReg_eq, CC.nzv16_eq_value16, Reg16.reg_beq_s]
  rfl

/-- An 8-bit load: the accumulator and the flags. -/
theorem State.load8_eq (k : Acc) (o : Operand8) :
    s.load8 k o =
      let m := s.operand8 o
      { m.2 with regs := { m.2.regs.setAcc k m.1 with cc := value8 m.1 m.2.regs.cc } } := by
  simp only [State.load8, CC.nzv8_eq_value8]
  rfl

/-! ### Stores (R180 to R186) -/

/-- An 8-bit store: one bus write, then the flags. -/
theorem State.store8_eq (k : Acc) (m : MemOperand) :
    s.store8 k m =
      let e := s.ea m
      let v := e.2.regs.acc k
      let w := e.2.writeByte e.1 v
      w.setCC (value8 v w.regs.cc) := by
  simp only [State.store8, CC.nzv8_eq_value8, State.writeByte_regs]

/-- A 16-bit store: the high byte, the low byte, then the flags. -/
theorem State.store16_eq (k : Reg) (m : MemOperand) :
    s.store16 k m =
      let e := s.ea m
      let v := e.2.regs.get k
      let w := e.2.writeWord e.1 v
      w.setCC (value16 v w.regs.cc) := by
  simp only [State.store16, CC.nzv16_eq_value16, State.writeWord_regs]

theorem State.writeWord_eq (a v : Word) :
    s.writeWord a v =
      (s.writeByte a (BitVec.ofNat 8 (v.toNat / 256))).writeByte (a + 1#16) (BitVec.ofNat 8 (v.toNat % 256)) := by
  rw [State.writeWord, hiByte_eq_ofNat, loByte_eq_ofNat]

/-- A word written leaves every cell but its two. -/
theorem State.peek_writeWord_other {a b : Word} (v : Word) (hhi : b ≠ a) (hlo : b ≠ a + 1#16) :
    (s.writeWord a v).peek b = s.peek b := by
  rw [State.writeWord, State.peek_writeByte_other _ _ hlo, State.peek_writeByte_other _ _ hhi]

/-- A word written to two Ram cells stands there. -/
theorem State.wordAt_writeWord {a : Word} (v : Word) {s : State} (h : RamFrom s a 2) : wordAt (s.writeWord a v) a = v := by
  rw [State.writeWord_ram v h]
  exact wordAt_of_stored (stored_wordBytes a v s)

theorem State.tagOf_ea (m : MemOperand) (a : Word) : (s.ea m).2.tagOf a = s.tagOf a := by
  rw [State.tagOf, State.ea_tags, State.tagOf]

/-! ### LEA (R190 to R193) -/

/-- A LEA that writes Z. -/
theorem State.leaZ_eq {k : Reg} (hk : k ≠ .s) (ix : Indexed) :
    s.leaZ k ix =
      let e := s.indexedEA ix
      let r := e.2.regs.put k e.1
      { e.2 with regs := { r with cc := { r.cc with z := decide (e.1.toNat = 0) } } } := by
  simp only [State.leaZ, State.writeReg_eq, beq_false_of_ne hk, Bool.or_false, beq_zero_eq_decide]
  rfl

/-- A LEA that writes no flag. -/
theorem State.leaQuiet_eq (k : Reg) (ix : Indexed) :
    s.leaQuiet k ix =
      let e := s.indexedEA ix
      { e.2 with
        regs := e.2.regs.put k e.1, lines := { e.2.lines with nmiArmed := e.2.lines.nmiArmed || k == .s } } :=
  State.writeReg_eq _ _ _

end

/-- Settles O20: the shape of a load, which every mode runs. -/
theorem loadResults : Obligations.LoadResults :=
  ⟨fun k o s => (exec_load8 s k o).trans (congrArg Host.Outcome.next (s.load8_eq k o)),
    fun k o s => (exec_load16 s k o).trans (congrArg Host.Outcome.next (s.load16_eq k o))⟩

/-- Settles O21: the shape of a store, which every mode runs, and what its bus writes change; the address step before them
changes no cell and no tag. -/
theorem storeResults : Obligations.StoreResults := by
  refine ⟨fun k m s => ?_, fun k m s => ?_⟩
  · intro e v w
    have hpeek : ∀ a, e.2.peek a = s.peek a := State.peek_congr (s.ea_mem m)
    refine ⟨?_, State.writeByte_regs _ _ _, fun a ha => ?_, fun hram => ?_, fun hrom => ?_⟩
    · exact (exec_store8 s k m).trans (congrArg Host.Outcome.next (s.store8_eq k m))
    · exact (State.peek_writeByte_other v e.2 ha).trans (hpeek a)
    · rw [← s.tagOf_ea m] at hram
      exact (congrArg (State.peek e.1) (State.writeByte_ram v hram)).trans (State.peek_poke_same e.1 v e.2)
    · rw [← s.tagOf_ea m] at hrom
      exact (congrArg (State.peek e.1) (State.writeByte_rom v hrom)).trans (hpeek e.1)
  · intro e v w
    have hw : e.2.writeWord e.1 v = w := State.writeWord_eq _ _ _
    have hpeek : ∀ a, e.2.peek a = s.peek a := State.peek_congr (s.ea_mem m)
    rw [← hw]
    refine ⟨?_, State.writeWord_regs _ _ _, fun a hhi hlo => ?_, fun hram => ?_⟩
    · exact (exec_store16 s k m).trans (congrArg Host.Outcome.next (s.store16_eq k.reg m))
    · exact (State.peek_writeWord_other e.2 v hhi hlo).trans (hpeek a)
    · have hram' : RamFrom e.2 e.1 2 := fun j hj => (s.tagOf_ea m _).trans (hram j hj)
      exact State.wordAt_writeWord v hram'

/-- Settles O22: the two shapes of LEA at its four registers. -/
theorem leaResults : Obligations.LeaResults := by
  intro ix s e
  refine ⟨congrArg Host.Outcome.next (s.leaZ_eq (by decide) ix), congrArg Host.Outcome.next (s.leaZ_eq (by decide) ix),
    congrArg Host.Outcome.next ?_, congrArg Host.Outcome.next ?_⟩
  · have hquiet := s.leaQuiet_eq .u ix
    simp only [Bool.or_false, show (Reg.u == Reg.s) = false from rfl] at hquiet
    exact hquiet
  · have hquiet := s.leaQuiet_eq .s ix
    simp only [Bool.or_true, show (Reg.s == Reg.s) = true from rfl] at hquiet
    exact hquiet

end Sys2Proof.Machine

/-! ## The arming of NMI (spec/40_load_store.md R229)

Whether NMI is armed, and since when the reset button has been pressed, are read off the state as one value: every
operation but a write of S as an instruction's own destination keeps it, and so does every poll but that of the reset
button. -/

namespace Sys2Proof.Machine
open Sys2Proof.Reference

/-! ### What is kept -/

/-- Whether NMI is armed (R45), and when the reset button was pressed, if it is (R55). -/
structure Arming where
  armed : Bool
  pressedAt : Option (BitVec 32)

/-- The arming of a machine. -/
def State.arming (s : State) : Arming := ⟨s.lines.nmiArmed, s.exe.resetPressedAt⟩

/-- The arming after an operation that arms NMI exactly when `p`. -/
def Arming.orArmed (p : Bool) (a : Arming) : Arming := { a with armed := a.armed || p }

@[simp] theorem Arming.orArmed_false (a : Arming) : a.orArmed false = a := by
  rw [Arming.orArmed, Bool.or_false]

@[simp] theorem Arming.orArmed_orArmed (p q : Bool) (a : Arming) : (a.orArmed p).orArmed q = a.orArmed (p || q) := by
  simp only [Arming.orArmed, Bool.or_assoc]

/-- What is armed stays armed. -/
theorem Arming.armed_orArmed (p : Bool) {a : Arming} (h : a.armed = true) : (a.orArmed p).armed = true := by
  rw [Arming.orArmed, h, Bool.true_or]

/-! ### The operations of an instruction -/

section
variable (s : State)

@[simp] theorem State.mapRegs_arming (f : Regs → Regs) : (s.mapRegs f).arming = s.arming := rfl
@[simp] theorem State.setCC_arming (cc : CC) : (s.setCC cc).arming = s.arming := rfl
@[simp] theorem State.setPC_arming (pc : Word) : (s.setPC pc).arming = s.arming := rfl
@[simp] theorem State.setE_arming (e : Bool) : (s.setE e).arming = s.arming := rfl
@[simp] theorem State.raiseIllegal_arming : s.raiseIllegal.arming = s.arming := rfl
theorem State.cpuState_arming (c : CpuState) : ({ s with cpuState := c } : State).arming = s.arming := rfl
@[simp] theorem State.recordBytes_arming (bs : List Byte) : (s.recordBytes bs).arming = s.arming := rfl

@[simp] theorem State.acknowledge_arming (e : Event) : (s.acknowledge e).arming = s.arming := by
  cases e <;> rfl

/-- A register written as an instruction's own destination arms NMI when it is S (R229). -/
@[simp] theorem State.writeReg_arming (k : Reg) (v : Word) : (s.writeReg k v).arming = s.arming.orArmed (k == .s) := by
  rw [State.writeReg_eq]
  rfl

@[simp] theorem State.readByte_arming (a : Word) : (s.readByte a).2.arming = s.arming := by
  simp [State.arming]

@[simp] theorem State.readWord_arming (a : Word) : (s.readWord a).2.arming = s.arming := by
  simp [State.readWord]

@[simp] theorem State.writeByte_arming (a : Word) (v : Byte) : (s.writeByte a v).arming = s.arming := by
  simp [State.arming]

@[simp] theorem State.writeWord_arming (a v : Word) : (s.writeWord a v).arming = s.arming := by
  simp [State.writeWord]

@[simp] theorem State.push8_arming (k : StackReg) (v : Byte) : (s.push8 k v).arming = s.arming := by
  simp [State.push8]

@[simp] theorem State.push16_arming (k : StackReg) (v : Word) : (s.push16 k v).arming = s.arming := by
  simp [State.push16]

@[simp] theorem State.pull8_arming (k : StackReg) : (s.pull8 k).2.arming = s.arming := by
  simp [State.pull8]

@[simp] theorem State.pull16_arming (k : StackReg) : (s.pull16 k).2.arming = s.arming := by
  simp [State.pull16]

@[simp] theorem State.indexedEA_arming (ix : Indexed) : (s.indexedEA ix).2.arming = s.arming := by
  simp [State.arming]

@[simp] theorem State.ea_arming (m : MemOperand) : (s.ea m).2.arming = s.arming := by
  simp [State.arming]

@[simp] theorem State.operand8_arming (o : Operand8) : (s.operand8 o).2.arming = s.arming := by
  cases o <;> simp [State.operand8]

@[simp] theorem State.operand16_arming (o : Operand16) : (s.operand16 o).2.arming = s.arming := by
  cases o <;> simp [State.operand16]

/-! ### The shapes that arm NMI -/

@[simp] theorem State.load16_arming (k : Reg) (o : Operand16) :
    (s.load16 k o).arming = s.arming.orArmed (k == .s) := by
  simp [State.load16]

@[simp] theorem State.leaZ_arming (k : Reg) (ix : Indexed) : (s.leaZ k ix).arming = s.arming.orArmed (k == .s) := by
  simp [State.leaZ]

@[simp] theorem State.leaQuiet_arming (k : Reg) (ix : Indexed) :
    (s.leaQuiet k ix).arming = s.arming.orArmed (k == .s) := by
  simp [State.leaQuiet]

/-- A pair of unlike sizes is illegal and arms nothing (R141). -/
theorem State.transfer_arming (src dst : Reg) :
    (s.transfer src dst).arming = s.arming.orArmed (pairWf src dst && dst == .s) := by
  by_cases h : src.is16 = dst.is16
  · rw [State.transfer, if_pos h, State.writeReg_arming, pairWf, beq_iff_eq.mpr h, Bool.true_and]
  · rw [State.transfer_illegal s h, State.raiseIllegal_arming, pairWf, beq_false_of_ne h, Bool.false_and,
      Arming.orArmed_false]

theorem State.exchange_arming (r1 r2 : Reg) :
    (s.exchange r1 r2).arming = s.arming.orArmed (pairWf r1 r2 && (r1 == .s || r2 == .s)) := by
  by_cases h : r1.is16 = r2.is16
  · rw [State.exchange, if_pos h, State.writeReg_arming, State.writeReg_arming, Arming.orArmed_orArmed, pairWf,
      beq_iff_eq.mpr h, Bool.true_and]
  · rw [State.exchange_illegal s h, State.raiseIllegal_arming, pairWf, beq_false_of_ne h, Bool.false_and,
      Arming.orArmed_false]

theorem State.when_arming {f : State → State} {q : Bool} (h : ∀ u : State, (f u).arming = u.arming.orArmed q) (p : Bool) :
    (s.when p f).arming = s.arming.orArmed (p && q) := by
  cases p
  · exact s.arming.orArmed_false.symm
  · exact h s

theorem State.when_arming_quiet {f : State → State} (h : ∀ u : State, (f u).arming = u.arming) (p : Bool) :
    (s.when p f).arming = s.arming := by
  cases p
  · rfl
  · exact h s

theorem State.pullReg8_arming (k : StackReg) (r : Reg) :
    (s.pullReg8 k r).arming = s.arming.orArmed (r == .s) := by
  simp [State.pullReg8]

theorem State.pullReg16_arming (k : StackReg) (r : Reg) :
    (s.pullReg16 k r).arming = s.arming.orArmed (r == .s) := by
  simp [State.pullReg16]

@[simp] theorem State.pushList_arming (k : StackReg) (pb : Byte) : (s.pushList k pb).arming = s.arming := by
  simp [State.pushList, State.when_arming_quiet]

/-- Of the registers of a list only the other stack pointer can be S (R213). -/
@[simp] theorem State.pullList_arming (k : StackReg) (pb : Byte) :
    (s.pullList k pb).arming = s.arming.orArmed (bit pb 6 && k.otherReg == .s) := by
  simp [State.pullList, State.when_arming _ fun u => u.pullReg8_arming k _,
    State.when_arming _ fun u => u.pullReg16_arming k _, beq_eq_decide]

/-! ### The shapes that do not -/

@[simp] theorem State.accOp_arming (f : Byte → Byte → CC → Byte × CC) (k : Acc) (o : Operand8) :
    (s.accOp f k o).arming = s.arming := by
  simp [State.accOp]

@[simp] theorem State.accTest_arming (f : Byte → Byte → CC → Byte × CC) (k : Acc) (o : Operand8) :
    (s.accTest f k o).arming = s.arming := by
  simp [State.accTest]

@[simp] theorem State.accUnary_arming (f : Byte → CC → Byte × CC) (k : Acc) : (s.accUnary f k).arming = s.arming := rfl

@[simp] theorem State.rmw_arming (f : Byte → CC → Byte × CC) (m : MemOperand) : (s.rmw f m).arming = s.arming := by
  simp [State.rmw]

@[simp] theorem State.load8_arming (k : Acc) (o : Operand8) : (s.load8 k o).arming = s.arming := by
  simp [State.load8]

@[simp] theorem State.store8_arming (k : Acc) (m : MemOperand) : (s.store8 k m).arming = s.arming := by
  simp [State.store8]

@[simp] theorem State.store16_arming (k : Reg) (m : MemOperand) : (s.store16 k m).arming = s.arming := by
  simp [State.store16]

@[simp] theorem State.dOp_arming (f : Word → Word → CC → Word × CC) (o : Operand16) :
    (s.dOp f o).arming = s.arming := by
  simp [State.dOp]

@[simp] theorem State.cmp16_arming (k : Reg) (o : Operand16) : (s.cmp16 k o).arming = s.arming := by
  simp [State.cmp16]

@[simp] theorem State.clearMem_arming (m : MemOperand) : (s.clearMem m).arming = s.arming := by
  simp [State.clearMem]

@[simp] theorem State.testMem_arming (m : MemOperand) : (s.testMem m).arming = s.arming := by
  simp [State.testMem]

@[simp] theorem State.clearAcc_arming (k : Acc) : (s.clearAcc k).arming = s.arming := rfl

@[simp] theorem State.testAcc_arming (k : Acc) : (s.testAcc k).arming = s.arming := rfl

@[simp] theorem State.branch_arming (taken : Bool) (off : Word) : (s.branch taken off).arming = s.arming := by
  simp [State.branch_eq]

@[simp] theorem State.branchSub_arming (off : Word) : (s.branchSub off).arming = s.arming := by
  simp [State.branchSub]

@[simp] theorem State.jump_arming (m : MemOperand) : (s.jump m).arming = s.arming := by
  simp [State.jump]

@[simp] theorem State.jumpSub_arming (m : MemOperand) : (s.jumpSub m).arming = s.arming := by
  simp [State.jumpSub]

@[simp] theorem State.returnSub_arming : s.returnSub.arming = s.arming := by
  simp [State.returnSub]

@[simp] theorem State.pushEntire_arming : s.pushEntire.arming = s.arming := by
  simp [State.arming]

@[simp] theorem State.pushShort_arming : s.pushShort.arming = s.arming := by
  simp [State.arming]

@[simp] theorem State.vectorTo_arming (e : Event) : (s.vectorTo e).arming = s.arming := by
  simp [State.vectorTo]

@[simp] theorem State.takeException_arming (e : Event) : (s.takeException e).arming = s.arming := by
  unfold State.takeException
  rw [State.vectorTo_arming]
  split <;> simp

@[simp] theorem State.waitForInterrupt_arming (mask : CC) : (s.waitForInterrupt mask).arming = s.arming := by
  rw [State.waitForInterrupt, State.cpuState_arming, State.pushEntire_arming, State.setE_arming, State.setCC_arming]

@[simp] theorem State.returnFromInterrupt_arming : s.returnFromInterrupt.arming = s.arming := by
  unfold State.returnFromInterrupt
  rw [State.setPC_arming, State.pull16_arming]
  split <;> simp

/-! ### Every instruction and the CPU step -/

/-- Every instruction completes, and arms NMI or leaves the arming as it is; a well-formed one arms NMI exactly when R229
names it. Those with a shape that can write S come first; a fixed destination that is not S arms nothing. -/
theorem exec_arming (i : Instr) :
    ∃ t p, exec i s = .next t ∧ t.arming = s.arming.orArmed p ∧ (i.wf = true → p = armsNmi i) := by
  cases i
  case ldsImm | ldsDir | ldsIdx | ldsExt => exact ⟨_, _, rfl, State.load16_arming s .s _, fun _ => rfl⟩
  case leas => exact ⟨_, _, rfl, State.leaQuiet_arming s .s _, fun _ => rfl⟩
  case tfr src dst =>
    refine ⟨_, _, rfl, State.transfer_arming s src dst, fun hwf => ?_⟩
    have hpair : pairWf src dst = true := hwf
    rw [hpair, Bool.true_and, armsNmi]
  case exg r1 r2 =>
    refine ⟨_, _, rfl, State.exchange_arming s r1 r2, fun hwf => ?_⟩
    have hpair : pairWf r1 r2 = true := hwf
    rw [hpair, Bool.true_and, armsNmi]
  case pulu pb => exact ⟨_, _, rfl, State.pullList_arming s .u pb, fun _ => Bool.and_true _⟩
  case puls pb => exact ⟨_, _, rfl, State.pullList_arming s .s pb, fun _ => Bool.and_false _⟩
  case sync => exact ⟨_, _, rfl, (s.cpuState_arming .syncing).trans s.arming.orArmed_false.symm, fun _ => rfl⟩
  all_goals exact ⟨_, false, rfl, by simp [beq_eq_decide], fun _ => rfl⟩

end

/-- An instruction that completes arms NMI or leaves the arming as it is. -/
theorem exec_arming_of_next {i : Instr} {s t : State} (h : exec i s = .next t) :
    ∃ p, t.arming = s.arming.orArmed p ∧ (i.wf = true → p = armsNmi i) := by
  obtain ⟨u, p, hu, harm, hwf⟩ := exec_arming s i
  obtain rfl : u = t := by simpa [hu] using h
  exact ⟨p, harm, hwf⟩

@[simp] theorem State.fetch8_arming (s : State) : s.fetch8.2.arming = s.arming := by
  simp [State.fetch8]

theorem State.fetchLoop_arming (fuel : Nat) (seen : List Byte) (s : State) :
    (s.fetchLoop fuel seen).2.arming = s.arming := by
  induction fuel generalizing seen s with
  | zero => rfl
  | succ n ih =>
    unfold State.fetchLoop
    dsimp only
    split
    · simp
    · rw [ih, State.fetch8_arming]
    · simp
    · simp
    · simp

theorem State.fetch_arming (s : State) : s.fetch.2.arming = s.arming :=
  State.fetchLoop_arming maxLength [] { s with lastPc := s.regs.pc }

theorem executeNext_arming {s t : State} (h : executeNext s = .next t) : ∃ p, t.arming = s.arming.orArmed p := by
  rw [← State.fetch_arming s]
  unfold executeNext at h
  dsimp only at h
  split at h
  · obtain ⟨p, harm, -⟩ := exec_arming_of_next h
    exact ⟨p, harm⟩
  · cases h
    exact ⟨false, by simp⟩

theorem State.enterInterrupt_arming (e : Event) (s : State) : (s.enterInterrupt e).arming = s.arming := by
  simp [State.enterInterrupt]

theorem State.wakeFromWait_arming (e : Event) (s : State) : (s.wakeFromWait e).arming = s.arming := by
  rw [State.wakeFromWait, State.cpuState_arming, State.vectorTo_arming, State.acknowledge_arming]

/-- A CPU step arms NMI or leaves the arming as it is, and does not move the reset button. -/
theorem cpuStep_arming {s t : State} (h : cpuStep s = .next t) : ∃ p, t.arming = s.arming.orArmed p := by
  have hquiet : s.arming = s.arming.orArmed false := s.arming.orArmed_false.symm
  unfold cpuStep at h
  split at h
  · cases h
    exact ⟨false, hquiet⟩
  · split at h
    · cases h
      exact ⟨false, hquiet⟩
    · exact executeNext_arming h
    · cases h
      exact ⟨false, (s.enterInterrupt_arming _).trans hquiet⟩
    · cases h
      exact ⟨false, (s.wakeFromWait_arming _).trans hquiet⟩
    · cases h
      exact ⟨false, hquiet⟩

/-! ### The polls -/

section
variable (s : State)

@[simp] theorem State.fatalHalt_arming (code : FatalCode) : (s.fatalHalt code).arming = s.arming := rfl

@[simp] theorem State.cb1Event_arming (id : PiaId) : (s.cb1Event id).arming = s.arming := by
  unfold State.cb1Event State.arming
  rw [(State.piaNotify_nmi _ _ _ _).1]
  simp

@[simp] theorem State.mapDisk_arming (f : Disk → Disk) : (s.mapDisk f).arming = s.arming := rfl
@[simp] theorem State.mapDev_arming (f : Devices → Devices) : (s.mapDev f).arming = s.arming := rfl
@[simp] theorem State.requestNmi_arming : s.requestNmi.arming = s.arming := rfl
@[simp] theorem State.setFrame_arming (f : Frame) : (s.setFrame f).arming = s.arming := rfl
@[simp] theorem State.drawFrame_arming : s.drawFrame.arming = s.arming := rfl

@[simp] theorem State.diskTick_arming : s.diskTick.arming = s.arming := by
  unfold State.diskTick
  dsimp only
  split
  · simp
  · split
    · split
      · split <;> simp
      · simp
    · rfl

@[simp] theorem State.pollTick_arming (now : BitVec 32) : (s.pollTick now).arming = s.arming := by
  unfold State.pollTick
  split
  · rw [State.diskTick_arming]
    rfl
  · rfl

@[simp] theorem State.suspend_arming : s.suspend.arming = s.arming := by
  unfold State.suspend
  dsimp only
  split <;> rfl

@[simp] theorem State.pollKeyboard_arming (sc : Byte) : (s.pollKeyboard sc).arming = s.arming := by
  unfold State.pollKeyboard
  dsimp only
  split <;> simp

@[simp] theorem State.pollCartridge_arming (edge : Bool) : (s.pollCartridge edge).arming = s.arming := by
  unfold State.pollCartridge
  split <;> simp

@[simp] theorem State.render_arming : s.render.arming = s.arming := by
  unfold State.render
  split
  · simp
  · split
    · rfl
    · simp
  · simp
  · simp
  · simp
  · simp

@[simp] theorem State.pollFrame_arming (now : BitVec 32) : (s.pollFrame now).arming = s.arming := by
  have hrender : ((s.mapExe fun e => { e with lastRefreshUs := now }).render).arming = s.arming :=
    State.render_arming _
  unfold State.pollFrame
  split
  · dsimp only
    split
    · rw [State.fatalHalt_arming, hrender]
    · rw [State.cb1Event_arming, hrender]
  · rfl

/-- The loader writes memory, mounts images and resumes the CPU (R658, R681). -/
theorem State.loaderEvent_arming_answers (ev : LoaderEvent) :
    (s.loaderEvent ev).arming = s.arming ∧ (s.loaderEvent ev).host.answers = s.host.answers := by
  cases ev with
  | mountImage kind rawSides bytes => exact ⟨rfl, rfl⟩
  | loadCartridge bytes => rw [State.loaderEvent, State.loadCartridge_eq]; exact ⟨rfl, rfl⟩
  | loadBasic bytes => rw [State.loaderEvent, State.loadBasic_eq]; exact ⟨rfl, rfl⟩
  | loadDos offset bytes => rw [State.loaderEvent, State.loadDos_eq]; exact ⟨rfl, rfl⟩
  | resume => exact ⟨rfl, rfl⟩

end

/-- The loader arms nothing and takes no answer of the host. -/
theorem State.runLoader_arming_answers (evs : List LoaderEvent) (s : State) :
    (s.runLoader evs).arming = s.arming ∧ (s.runLoader evs).host.answers = s.host.answers := by
  induction evs generalizing s with
  | nil => exact ⟨rfl, rfl⟩
  | cons ev rest ih =>
    unfold State.runLoader
    split
    · obtain ⟨harm, hans⟩ := ih (s.loaderEvent ev)
      obtain ⟨harm', hans'⟩ := s.loaderEvent_arming_answers ev
      exact ⟨harm.trans harm', hans.trans hans'⟩
    · exact ⟨rfl, rfl⟩

/-- The poll of the reset button resets the machine only when the button was pressed and is released; otherwise it keeps
the latches (R656). -/
theorem State.pollReset_lines {b : Bool} {s : State} (h : ¬ (s.exe.resetPressedAt ≠ none ∧ b = true)) (now : BitVec 32) :
    (s.pollReset b now).lines = s.lines := by
  unfold State.pollReset
  split
  · split <;> rfl
  · next t0 hpressed =>
    have hb : ¬ b = true := fun hb => h ⟨by simp [hpressed], hb⟩
    rw [if_neg hb]

/-- The polls of an iteration that releases no pressed reset button keep NMI armed. -/
theorem State.poll_armed {h : HostAnswers} {s : State} (hno : ¬ (s.exe.resetPressedAt ≠ none ∧ h.resetButton = true)) :
    (s.poll h).lines.nmiArmed = s.lines.nmiArmed := by
  have hreset : (s.pollReset h.resetButton h.nowReset).lines.nmiArmed = s.lines.nmiArmed :=
    congrArg Lines.nmiArmed (State.pollReset_lines hno h.nowReset)
  have hpolls : (s.poll h).arming = (s.pollReset h.resetButton h.nowReset).arming := by
    simp [State.poll, (State.runLoader_arming_answers _ _).1]
  exact (congrArg Arming.armed hpolls).trans hreset

/-- The polls take no answer beyond their own. -/
theorem State.poll_answers (h : HostAnswers) (s : State) : (s.poll h).host.answers = s.host.answers := by
  obtain ⟨u, hu, hfix⟩ := s.poll_eq_runLoader h
  rw [hu, (State.runLoader_arming_answers _ _).2]
  exact State.answers_of_fixedAt (hfix 0)

/-- The rest of an iteration disarms NMI only by a reset: when it polls, which takes an answer, and that answer releases
the pressed button. -/
theorem State.finishIteration_armed {s : State} (h : ReleasesReset s → s.finishIteration.host.answers = s.host.answers) :
    s.finishIteration.lines.nmiArmed = s.lines.nmiArmed := by
  revert h
  unfold State.finishIteration
  split
  · exact fun _ => rfl
  · split
    · exact fun _ => rfl
    · next a rest hans =>
      intro h
      refine State.poll_armed (s := { s with host := { s.host with answers := rest } }) fun hrelease => ?_
      obtain ⟨hpressed, hbutton⟩ := hrelease
      have htaken := h ⟨hpressed, a, by rw [hans, List.head?_cons], hbutton⟩
      rw [State.poll_answers, hans] at htaken
      exact List.cons_ne_self a rest htaken.symm

/-- Settles O11: `exec_arming` for the instructions, then the entry and the wake, and a step as a CPU step, which only
arms, and the rest of the iteration. -/
theorem onlyTheseArmNmi : Obligations.OnlyTheseArmNmi := by
  refine ⟨fun i s t hwf hexec => ?_, fun e s => ⟨?_, ?_⟩, fun s t hstep harmed hreset => ?_⟩
  · obtain ⟨p, harm, hp⟩ := exec_arming_of_next hexec
    rw [← hp hwf]
    exact congrArg Arming.armed harm
  · exact congrArg Arming.armed (s.enterInterrupt_arming e)
  · exact congrArg Arming.armed (s.wakeFromWait_arming e)
  · obtain ⟨u, hcpu, rfl⟩ := step_eq_next hstep
    obtain ⟨p, harm⟩ := cpuStep_arming hcpu
    have hans : u.host.answers = s.host.answers := State.answers_of_fixedAt (cpuStep_fixedAt hcpu 0)
    have hpressed : u.exe.resetPressedAt = s.exe.resetPressedAt := congrArg Arming.pressedAt harm
    have hu : u.lines.nmiArmed = true :=
      (congrArg Arming.armed harm).trans (Arming.armed_orArmed (a := s.arming) p harmed)
    have hfinish : ReleasesReset u → u.finishIteration.host.answers = u.host.answers := by
      rw [ReleasesReset, hans, hpressed]
      exact hreset
    exact (State.finishIteration_armed hfinish).trans hu

end Sys2Proof.Machine

/-! ## Sums and differences as integer arithmetic (spec/41_arithmetic.md R230 to R233)

The model adds and subtracts bit vectors one bit wider than the operands. The number of the result is the sum of theirs,
its top bit the carry, and a signed number that leaves its range wraps once, which shows in the signs. -/

namespace Sys2Proof.Machine
open Sys2Proof.Reference

/-! ### Bits as facts about numbers (R11) -/

theorem bit_seven_eq_decide (v : Byte) : bit v 7 = decide (128 ≤ v.toNat) := getLsbD_pred_eq_decide v

theorem bit_zero_eq_decide (v : Byte) : bit v 0 = decide (v.toNat % 2 = 1) := Nat.testBit_zero v.toNat

theorem beq_eq_decide_toNat {w : Nat} (v u : BitVec w) : (v == u) = decide (v.toNat = u.toNat) := by
  rw [Bool.eq_iff_iff, beq_iff_eq, decide_eq_true_iff, BitVec.toNat_eq]

theorem toNat_carryIn (c : Bool) : (carryIn c).toNat = c.toNat := by cases c <;> rfl

/-! ### Overflow (R230 to R233) -/

/-- The top bit of a bit vector is its sign. -/
theorem getLsbD_eq_decide_neg {w : Nat} (v : BitVec (w + 1)) : v.getLsbD w = decide (v.toInt < 0) := by
  rw [← BitVec.msb_eq_toInt, BitVec.msb_eq_getLsbD_last, Nat.add_sub_cancel]

theorem toInt_range {w : Nat} (v : BitVec (w + 1)) : -2 ^ w ≤ v.toInt ∧ v.toInt < 2 ^ w :=
  ⟨v.le_toInt, v.toInt_lt⟩

theorem ofInt_add_modulus {w : Nat} (n : Int) : BitVec.ofInt (w + 1) (n + 2 * 2 ^ w) = BitVec.ofInt (w + 1) n := by
  apply BitVec.eq_of_toInt_eq
  rw [BitVec.toInt_ofInt, BitVec.toInt_ofInt, ← Int.add_bmod_right n, Nat.pow_succ, Nat.mul_comm]
  norm_cast

theorem toInt_ofInt_of_range {w : Nat} {n : Int} (hlo : -2 ^ w ≤ n) (hhi : n < 2 ^ w) :
    (BitVec.ofInt (w + 1) n).toInt = n :=
  BitVec.toInt_ofInt_eq_self w.succ_pos hlo hhi

/-- An integer within twice the signed range wraps at most once, by the side on which it leaves the range. -/
theorem toInt_ofInt_wraps {w : Nat} {n : Int} (hlo : -(2 * 2 ^ w) ≤ n) (hhi : n < 2 * 2 ^ w) :
    let r := (BitVec.ofInt (w + 1) n).toInt
    n < -2 ^ w ∧ r = n + 2 * 2 ^ w ∨ -2 ^ w ≤ n ∧ n < 2 ^ w ∧ r = n ∨ 2 ^ w ≤ n ∧ r = n - 2 * 2 ^ w := by
  have hpos : (0 : Int) < 2 ^ w := by positivity
  by_cases hbelow : n < -2 ^ w
  · exact .inl ⟨hbelow, by rw [← ofInt_add_modulus, toInt_ofInt_of_range (by omega) (by omega)]⟩
  by_cases habove : 2 ^ w ≤ n
  · refine .inr (.inr ⟨habove, ?_⟩)
    rw [← Int.sub_add_cancel n (2 * 2 ^ w), ofInt_add_modulus, toInt_ofInt_of_range (by omega) (by omega)]
    omega
  · exact .inr (.inl ⟨by omega, by omega, toInt_ofInt_of_range (by omega) (by omega)⟩)

theorem ofInt_toNat_sum {w : Nat} (a m : BitVec w) (k : Int) :
    BitVec.ofInt w (a.toNat + m.toNat + k) = BitVec.ofInt w (a.toInt + m.toInt + k) := by
  simp [BitVec.ofInt_add]

theorem ofInt_toNat_difference {w : Nat} (a m : BitVec w) (k : Int) :
    BitVec.ofInt w (a.toNat - m.toNat - k) = BitVec.ofInt w (a.toInt - m.toInt - k) := by
  simp [Int.sub_eq_add_neg, BitVec.ofInt_add, BitVec.ofInt_neg]

/-- A sum leaves the signed range exactly when its sign differs from those of both operands. -/
theorem overflow_of_sum {w : Nat} {a m r : BitVec (w + 1)} {k : Int} (hk : k = 0 ∨ k = 1)
    (hr : r = BitVec.ofInt (w + 1) (a.toNat + m.toNat + k)) :
    ((a ^^^ r) &&& (m ^^^ r)).getLsbD w =
      decide (a.toInt + m.toInt + k < -2 ^ w ∨ 2 ^ w - 1 < a.toInt + m.toInt + k) := by
  have ha := toInt_range a
  have hm := toInt_range m
  have hwraps := toInt_ofInt_wraps (w := w) (n := a.toInt + m.toInt + k) (by omega) (by omega)
  rw [← ofInt_toNat_sum, ← hr] at hwraps
  rw [Bool.eq_iff_iff, BitVec.getLsbD_and, BitVec.getLsbD_xor, BitVec.getLsbD_xor]
  simp only [getLsbD_eq_decide_neg, Bool.and_eq_true, bne_iff_ne, ne_eq, decide_eq_decide, decide_eq_true_eq]
  omega

/-- A difference leaves the signed range exactly when the signs of the operands differ and its own is not the first's. -/
theorem overflow_of_difference {w : Nat} {a m r : BitVec (w + 1)} {k : Int} (hk : k = 0 ∨ k = 1)
    (hr : r = BitVec.ofInt (w + 1) (a.toNat - m.toNat - k)) :
    ((a ^^^ m) &&& (a ^^^ r)).getLsbD w =
      decide (a.toInt - m.toInt - k < -2 ^ w ∨ 2 ^ w - 1 < a.toInt - m.toInt - k) := by
  have ha := toInt_range a
  have hm := toInt_range m
  have hwraps := toInt_ofInt_wraps (w := w) (n := a.toInt - m.toInt - k) (by omega) (by omega)
  rw [← ofInt_toNat_difference, ← hr] at hwraps
  rw [Bool.eq_iff_iff, BitVec.getLsbD_and, BitVec.getLsbD_xor, BitVec.getLsbD_xor]
  simp only [getLsbD_eq_decide_neg, Bool.and_eq_true, bne_iff_ne, ne_eq, decide_eq_decide, decide_eq_true_eq]
  omega

/-! ### 8-bit sums and differences (R230, R231) -/

theorem toNat_eq_zero_or_one (c : Bool) : (c.toNat : Int) = 0 ∨ (c.toNat : Int) = 1 := by cases c <;> simp

theorem add8_fst (a m : Byte) (c : Bool) (cc : CC) : (add8 a m c cc).1 = BitVec.ofNat 8 (a.toNat + m.toNat + c.toNat) :=
  BitVec.eq_of_toNat_eq ((add8_result a m c cc).1.trans (BitVec.toNat_ofNat _ 8).symm)

theorem sub8_fst (a m : Byte) (c : Bool) (cc : CC) :
    (sub8 a m c cc).1 = BitVec.ofInt 8 ((a.toNat : Int) - m.toNat - c.toNat) := by
  have hc := c.toNat_le
  apply BitVec.eq_of_toNat_eq
  rw [(sub8_result a m c cc).1, BitVec.toNat_ofInt]
  omega

/-- H of a sum: bit 4 of the result differs from that of the operands exactly when the low halves carry. -/
theorem half_carry_of_sum {a m r : Byte} {c : Bool} (hr : r = BitVec.ofNat 8 (a.toNat + m.toNat + c.toNat)) :
    bit (a ^^^ m ^^^ r) 4 = decide (15 < a.toNat % 16 + m.toNat % 16 + c.toNat) := by
  have hsum : r = a + m + BitVec.setWidth 8 (BitVec.ofBool c) := by
    rw [hr, BitVec.ofNat_add, BitVec.ofNat_add, BitVec.ofNat_toNat, BitVec.ofNat_toNat]
    cases c <;> rfl
  rw [hsum, bit, BitVec.getLsbD_xor, BitVec.getLsbD_xor, BitVec.getLsbD_add_add_bool (by decide), BitVec.carry]
  cases a.getLsbD 4 <;> cases m.getLsbD 4 <;> simp <;> omega

theorem carry_of_sum (a m : Byte) (c : Bool) :
    (a.setWidth 9 + m.setWidth 9 + carryIn c).getLsbD 8 = decide (255 < a.toNat + m.toNat + c.toNat) := by
  have hc := c.toNat_le
  refine (getLsbD_pred_eq_decide _).trans ?_
  simp only [BitVec.toNat_add, BitVec.toNat_setWidth, toNat_carryIn, decide_eq_decide]
  omega

theorem borrow_of_difference (a m : Byte) (c : Bool) :
    (a.setWidth 9 - m.setWidth 9 - carryIn c).getLsbD 8 = decide (a.toNat < m.toNat + c.toNat) := by
  have hc := c.toNat_le
  refine (getLsbD_pred_eq_decide _).trans ?_
  simp only [BitVec.toNat_sub, BitVec.toNat_setWidth, toNat_carryIn, decide_eq_decide]
  omega

theorem add8_eq_sum8 (a m : Byte) (c : Bool) (cc : CC) : add8 a m c cc = sum8 a m c cc := by
  have hfst := add8_fst a m c cc
  have hsum : (add8 a m c cc).1 = BitVec.ofInt 8 (a.toNat + m.toNat + c.toNat) :=
    hfst.trans (BitVec.ofInt_natCast 8 _).symm
  have hh := half_carry_of_sum hfst
  have hv := overflow_of_sum (toNat_eq_zero_or_one c) hsum
  rw [hfst] at hh hv
  dsimp only [add8] at hfst ⊢
  rw [hfst, CC.nz8_eq_signZero8, hh, carry_of_sum, bit, hv]
  rfl

theorem sub8_eq_diff8 (a m : Byte) (c : Bool) (cc : CC) : sub8 a m c cc = diff8 a m c cc := by
  have hfst := sub8_fst a m c cc
  have hv := overflow_of_difference (toNat_eq_zero_or_one c) hfst
  rw [hfst] at hv
  dsimp only [sub8] at hfst ⊢
  rw [hfst, CC.nz8_eq_signZero8, borrow_of_difference, bit, hv]
  rfl

/-! ### 16-bit sums and differences (R232, R233) -/

theorem add16_eq_sum16 (a m : Word) (cc : CC) : add16 a m cc = sum16 a m cc := by
  have hfst : (add16 a m cc).1 = BitVec.ofNat 16 (a.toNat + m.toNat) := by
    simp [add16, BitVec.setWidth_add, BitVec.ofNat_add]
  have hsum : (add16 a m cc).1 = BitVec.ofInt 16 (a.toNat + m.toNat + 0) :=
    hfst.trans (BitVec.ofInt_natCast 16 _).symm
  have hv := overflow_of_sum (.inl rfl) hsum
  have hc : (a.setWidth 17 + m.setWidth 17).getLsbD 16 = decide (65535 < a.toNat + m.toNat) := by
    refine (getLsbD_pred_eq_decide _).trans ?_
    simp only [BitVec.toNat_add, BitVec.toNat_setWidth, decide_eq_decide]
    omega
  rw [hfst, Int.add_zero] at hv
  dsimp only [add16] at hfst ⊢
  rw [hfst, CC.nz16_eq_signZero16, hc, hv]
  rfl

theorem sub16_eq_diff16 (a m : Word) (cc : CC) : sub16 a m cc = diff16 a m cc := by
  have hfst : (sub16 a m cc).1 = BitVec.ofInt 16 ((a.toNat : Int) - m.toNat) := by
    apply BitVec.eq_of_toNat_eq
    simp only [sub16, BitVec.toNat_setWidth, BitVec.toNat_sub, BitVec.toNat_ofInt]
    omega
  have hv := overflow_of_difference (k := 0) (.inl rfl) (hfst.trans (by rw [Int.sub_zero]))
  have hc : (a.setWidth 17 - m.setWidth 17).getLsbD 16 = decide (a.toNat < m.toNat) := by
    refine (getLsbD_pred_eq_decide _).trans ?_
    simp only [BitVec.toNat_sub, BitVec.toNat_setWidth, decide_eq_decide]
    omega
  rw [hfst, Int.sub_zero] at hv
  dsimp only [sub16] at hfst ⊢
  rw [hfst, CC.nz16_eq_signZero16, hc, hv]
  rfl

end Sys2Proof.Machine

/-! ## Arithmetic and logic instructions (spec/41_arithmetic.md, spec/42_logic_shift.md)

Every mode of an operation runs the operation's one shape, and what it computes is a result and flags on integers. -/

namespace Sys2Proof.Machine
open Sys2Proof.Reference

/-! ### ADD, ADC, SUB, SBC, AND, OR, EOR, CMP, BIT (R240 to R251, R300 to R312) -/

/-- What the model computes for an operation that writes its accumulator. -/
def aluOp (op : AluOp) : Byte → Byte → CC → Byte × CC :=
  match op with
  | .add => opAdd
  | .adc => opAdc
  | .sub => opSub
  | .sbc => opSbc
  | .and => opAnd
  | .or => opOr
  | .eor => opEor

/-- What the model computes for a compare and for BIT. -/
def testOp (op : TestOp) : Byte → Byte → CC → Byte × CC :=
  match op with
  | .cmp => opSub
  | .bit => opAnd

theorem exec_alu (op : AluOp) (k : Acc) (o : Operand8) (s : State) :
    exec (.alu op k o) s = .next (s.accOp (aluOp op) k o) := by
  cases op <;> cases k <;> rcases o with v | lo | ix | a <;> rfl

theorem exec_test (op : TestOp) (k : Acc) (o : Operand8) (s : State) :
    exec (.test op k o) s = .next (s.accTest (testOp op) k o) := by
  cases op <;> cases k <;> rcases o with v | lo | ix | a <;> rfl

theorem aluOp_eq_alu (op : AluOp) (a m : Byte) (cc : CC) : aluOp op a m cc = alu op a m cc := by
  cases op with
  | add | adc => exact add8_eq_sum8 a m _ cc
  | sub | sbc => exact sub8_eq_diff8 a m _ cc
  | and | or | eor => exact congrArg (Prod.mk _) (CC.nzv8_eq_value8 _ cc)

theorem testOp_snd_eq_test (op : TestOp) (a m : Byte) (cc : CC) : (testOp op a m cc).2 = test op a m cc := by
  cases op with
  | cmp => exact congrArg Prod.snd (sub8_eq_diff8 a m false cc)
  | bit => exact CC.nzv8_eq_value8 _ cc

/-- Settles O26: the two shapes of an accumulator and an operand, and the operations of both as integer arithmetic. -/
theorem accumulatorOperations : Obligations.AccumulatorOperations := by
  refine ⟨fun op k o s => ?_, fun op k o s => ?_⟩
  · rw [exec_alu, State.accOp, aluOp_eq_alu]
    rfl
  · rw [exec_test, State.accTest, testOp_snd_eq_test]
    rfl

/-! ### ADDD, SUBD and the 16-bit compares (R244, R249, R252 to R256) -/

theorem exec_addd (o : Operand16) (s : State) : exec (.addd o) s = .next (s.dOp add16 o) := by
  rcases o with v | lo | ix | a <;> rfl

theorem exec_subd (o : Operand16) (s : State) : exec (.subd o) s = .next (s.dOp sub16 o) := by
  rcases o with v | lo | ix | a <;> rfl

theorem exec_cmp16 (k : Reg16) (o : Operand16) (s : State) : exec (.cmp16 k o) s = .next (s.cmp16 k.reg o) := by
  cases k <;> rcases o with v | lo | ix | a <;> rfl

/-- Settles O27: the shapes of D and of a compare, and the 16-bit sum and difference. -/
theorem sixteenBitArithmetic : Obligations.SixteenBitArithmetic := by
  refine ⟨fun o s => ?_, fun o s => ?_, fun k o s => ?_⟩
  · rw [exec_addd, State.dOp, add16_eq_sum16]
    rfl
  · rw [exec_subd, State.dOp, sub16_eq_diff16]
    rfl
  · rw [exec_cmp16, State.cmp16, sub16_eq_diff16]
    rfl

/-! ### NEG, COM, LSR, ROR, ASR, ASL, ROL, DEC, INC (R260 to R268, R320 to R339) -/

/-- What the model computes for an operation of one operand. -/
def unaryOp (op : UnaryOp) : Byte → CC → Byte × CC :=
  match op with
  | .neg => opNeg
  | .com => opCom
  | .lsr => opLsr
  | .ror => opRor
  | .asr => opAsr
  | .asl => opAsl
  | .rol => opRol
  | .dec => opDec
  | .inc => opInc

theorem exec_unaryAcc (op : UnaryOp) (k : Acc) (s : State) :
    exec (.unaryAcc op k) s = .next (s.accUnary (unaryOp op) k) := by
  cases op <;> cases k <;> rfl

theorem exec_unaryMem (op : UnaryOp) (m : MemOperand) (s : State) :
    exec (.unaryMem op m) s = .next (s.rmw (unaryOp op) m) := by
  cases op <;> cases m <;> rfl

theorem toNat_flagBit_seven (c : Bool) : (flagBit c 7).toNat = 2 ^ 7 * c.toNat := by cases c <;> rfl

theorem toNat_flagBit_zero (c : Bool) : (flagBit c 0).toNat = c.toNat := by cases c <;> rfl

/-- A right shift leaves bit 7 free for the bit shifted in. -/
theorem shiftRight_or_flagBit (m : Byte) (c : Bool) :
    m >>> 1 ||| flagBit c 7 = BitVec.ofNat 8 (m.toNat / 2 + 128 * c.toNat) := by
  have hm : m.toNat / 2 < 2 ^ 7 := by omega
  have hc := c.toNat_le
  apply BitVec.eq_of_toNat_eq
  rw [BitVec.toNat_or, BitVec.toNat_ushiftRight, toNat_flagBit_seven, Nat.shiftRight_one, Nat.or_comm,
    ← Nat.two_pow_add_eq_or_of_lt hm, BitVec.toNat_ofNat]
  omega

/-- A left shift leaves bit 0 free for the bit shifted in. -/
theorem shiftLeft_or_flagBit (m : Byte) (c : Bool) :
    m <<< 1 ||| flagBit c 0 = BitVec.ofNat 8 (2 * m.toNat + c.toNat) := by
  have hm : (m <<< 1).toNat = 2 ^ 1 * (m.toNat % 128) := by
    rw [BitVec.toNat_shiftLeft, Nat.shiftLeft_eq]
    omega
  have hc := c.toNat_le
  apply BitVec.eq_of_toNat_eq
  rw [BitVec.toNat_or, hm, toNat_flagBit_zero, ← Nat.two_pow_add_eq_or_of_lt (by omega), BitVec.toNat_ofNat]
  omega

theorem shiftRight_eq_ofNat (m : Byte) : m >>> 1 = BitVec.ofNat 8 (m.toNat / 2) :=
  (BitVec.or_zero (x := m >>> 1)).symm.trans (shiftRight_or_flagBit m false)

theorem shiftLeft_eq_ofNat (m : Byte) : m <<< 1 = BitVec.ofNat 8 (2 * m.toNat) :=
  (BitVec.or_zero (x := m <<< 1)).symm.trans (shiftLeft_or_flagBit m false)

/-- Bit 7 alone, as ASR replicates it. -/
theorem and_high_eq_flagBit (m : Byte) : m &&& 0x80#8 = flagBit (decide (128 ≤ m.toNat)) 7 := by
  apply BitVec.eq_of_toNat_eq
  rw [← bit_seven_eq_decide, toNat_flagBit_seven, Nat.mul_comm]
  exact Nat.and_two_pow m.toNat 7

/-- V of a left shift: the top two bits differ exactly when twice the signed number leaves the range. -/
theorem overflow_of_double (m : Byte) : (bit m 7 ^^ bit m 6) = over8 (2 * m.toInt) := by
  have h6 : bit m 6 = decide (m.toNat / 64 % 2 = 1) := Nat.testBit_eq_decide_div_mod_eq
  have hm := m.isLt
  rw [bit_seven_eq_decide, h6, over8, BitVec.toInt_eq_toNat_cond, Bool.eq_iff_iff]
  simp only [bne_iff_ne, ne_eq, decide_eq_decide, decide_eq_true_eq]
  split <;> omega

theorem opNeg_eq_unary (m : Byte) (cc : CC) : opNeg m cc = unary .neg m cc := by
  have hr : 0#8 - m = BitVec.ofInt 8 (-(m.toNat : Int)) := by simp [BitVec.ofInt_neg]
  rw [opNeg, hr, CC.nz8_eq_signZero8, bne, beq_eq_decide_toNat, beq_eq_decide_toNat, ← decide_not]
  rfl

theorem opCom_eq_unary (m : Byte) (cc : CC) : opCom m cc = unary .com m cc := by
  have hr : ~~~m = BitVec.ofNat 8 (255 - m.toNat) := by
    apply BitVec.eq_of_toNat_eq
    rw [BitVec.toNat_not, BitVec.toNat_ofNat]
    omega
  rw [opCom, hr, CC.nzv8_eq_value8]
  rfl

theorem opLsr_eq_unary (m : Byte) (cc : CC) : opLsr m cc = unary .lsr m cc := by
  have hn : false = decide (128 ≤ (BitVec.ofNat 8 (m.toNat / 2)).toNat) := by
    rw [eq_comm, decide_eq_false_iff_not, BitVec.toNat_ofNat]
    omega
  rw [opLsr, shiftRight_eq_ofNat, beq_eq_decide_toNat, bit_zero_eq_decide, hn]
  rfl

theorem opRor_eq_unary (m : Byte) (cc : CC) : opRor m cc = unary .ror m cc := by
  rw [opRor, shiftRight_or_flagBit, CC.nz8_eq_signZero8, bit_zero_eq_decide]
  rfl

theorem opAsr_eq_unary (m : Byte) (cc : CC) : opAsr m cc = unary .asr m cc := by
  rw [opAsr, and_high_eq_flagBit, shiftRight_or_flagBit, CC.nz8_eq_signZero8, bit_zero_eq_decide]
  rfl

theorem opAsl_eq_unary (m : Byte) (cc : CC) : opAsl m cc = unary .asl m cc := by
  rw [opAsl, shiftLeft_eq_ofNat, CC.nz8_eq_signZero8, overflow_of_double, bit_seven_eq_decide]
  rfl

theorem opRol_eq_unary (m : Byte) (cc : CC) : opRol m cc = unary .rol m cc := by
  rw [opRol, shiftLeft_or_flagBit, CC.nz8_eq_signZero8, overflow_of_double, bit_seven_eq_decide]
  rfl

theorem opDec_eq_unary (m : Byte) (cc : CC) : opDec m cc = unary .dec m cc := by
  have hr : m - 1#8 = BitVec.ofInt 8 ((m.toNat : Int) - 1) := by
    rw [Int.sub_eq_add_neg, BitVec.ofInt_add, BitVec.ofInt_natCast, BitVec.ofNat_toNat, BitVec.setWidth_eq]
    exact BitVec.sub_eq_add_neg m 1#8
  rw [opDec, hr, CC.nz8_eq_signZero8, beq_eq_decide_toNat]
  rfl

theorem opInc_eq_unary (m : Byte) (cc : CC) : opInc m cc = unary .inc m cc := by
  have hr : m + 1#8 = BitVec.ofNat 8 (m.toNat + 1) := by
    rw [BitVec.ofNat_add, BitVec.ofNat_toNat, BitVec.setWidth_eq]
  rw [opInc, hr, CC.nz8_eq_signZero8, beq_eq_decide_toNat]
  rfl

theorem unaryOp_eq_unary (op : UnaryOp) (m : Byte) (cc : CC) : unaryOp op m cc = unary op m cc := by
  cases op with
  | neg => exact opNeg_eq_unary m cc
  | com => exact opCom_eq_unary m cc
  | lsr => exact opLsr_eq_unary m cc
  | ror => exact opRor_eq_unary m cc
  | asr => exact opAsr_eq_unary m cc
  | asl => exact opAsl_eq_unary m cc
  | rol => exact opRol_eq_unary m cc
  | dec => exact opDec_eq_unary m cc
  | inc => exact opInc_eq_unary m cc

/-- Settles O28: the shape of an accumulator alone, and its operations on integers. -/
theorem accumulatorUnary : Obligations.AccumulatorUnary := by
  intro op k s
  rw [exec_unaryAcc, State.accUnary, unaryOp_eq_unary]
  rfl

/-- A bus write to a cell, from a state with the memory and the tags of `s`: no other cell changes, and a Ram cell takes
the byte. -/
theorem State.writeByte_cell {s t : State} (hmem : t.mem = s.mem) (htags : t.tags = s.tags) (a : Word) (v : Byte) :
    (∀ b, b ≠ a → (t.writeByte a v).peek b = s.peek b) ∧ (s.tagOf a = .ram → (t.writeByte a v).peek a = v) := by
  refine ⟨fun b hb => (State.peek_writeByte_other v t hb).trans (State.peek_congr hmem b), fun hram => ?_⟩
  rw [State.tagOf, ← htags] at hram
  rw [State.writeByte_ram v hram, State.peek_poke_same]

/-- Settles O29: the shape of a read-modify-write, its operations on integers, and what its one write changes. -/
theorem memoryUnary : Obligations.MemoryUnary := by
  intro op m s e v r w
  have hmem : v.2.mem = s.mem := (State.readByte_mem _ _).trans (State.ea_mem m s)
  have htags : v.2.tags = s.tags := (State.readByte_tags _ _).trans (State.ea_tags m s)
  refine ⟨?_, (State.writeByte_regs _ _ _).trans (State.readByte_regs _ _), State.writeByte_cell hmem htags e.1 r.1⟩
  rw [exec_unaryMem, State.rmw, unaryOp_eq_unary]
  rfl

/-! ### CLR and TST (R269 to R274) -/

theorem exec_clr (m : MemOperand) (s : State) : exec (.clr m) s = .next (s.clearMem m) := by
  cases m <;> rfl

theorem exec_tst (m : MemOperand) (s : State) : exec (.tst m) s = .next (s.testMem m) := by
  cases m <;> rfl

theorem exec_clrAcc (k : Acc) (s : State) : exec (.clrAcc k) s = .next (s.clearAcc k) := by
  cases k <;> rfl

theorem exec_tstAcc (k : Acc) (s : State) : exec (.tstAcc k) s = .next (s.testAcc k) := by
  cases k <;> rfl

/-- Settles O30: the four shapes; that of CLR on memory has the one write and no read before it but the address step's. -/
theorem clearAndTest : Obligations.ClearAndTest := by
  refine ⟨fun m s => ?_, fun m s => ?_, fun k s => ?_, fun k s => ?_⟩
  · intro e w
    refine ⟨?_, State.writeByte_regs _ _ _, State.writeByte_cell (State.ea_mem m s) (State.ea_tags m s) e.1 0x00⟩
    rw [exec_clr, State.clearMem, ← State.writeByte_regs (s.ea m).1 0x00]
    rfl
  · rw [exec_tst, State.testMem, CC.nzv8_eq_value8]
    rfl
  · rw [exec_clrAcc, State.clearAcc]
    cases k <;> rfl
  · rw [exec_tstAcc, State.testAcc, CC.nzv8_eq_value8]
    rfl

/-! ### MUL, DAA, SEX, ABX (R280 to R283) -/

theorem exec_mul (s : State) : exec .mul s = execMul s := rfl

theorem exec_daa (s : State) : exec .daa s = execDaa s := rfl

theorem exec_sex (s : State) : exec .sex s = execSex s := rfl

theorem exec_abx (s : State) : exec .abx s = execAbx s := rfl

theorem toNat_mul_toNat_le (a b : Byte) : a.toNat * b.toNat ≤ 0xFE01 :=
  Nat.mul_le_mul (Nat.le_of_lt_succ a.isLt) (Nat.le_of_lt_succ b.isLt)

theorem add_zext8 (w : Word) (b : Byte) : w + zext8 b = BitVec.ofNat 16 (w.toNat + b.toNat) := by
  rw [BitVec.ofNat_add, BitVec.ofNat_toNat, BitVec.setWidth_eq, BitVec.ofNat_toNat, zext8]

theorem toNat_zext8 (b : Byte) : (zext8 b).toNat = b.toNat := BitVec.toNat_setWidth_of_le (by decide)

theorem toNat_zext8_mul (a b : Byte) : (zext8 a * zext8 b).toNat = a.toNat * b.toNat := by
  have hp := toNat_mul_toNat_le a b
  rw [BitVec.toNat_mul, toNat_zext8, toNat_zext8, Nat.mod_eq_of_lt (by omega)]

theorem getLsbD_seven_eq_decide (d : Word) : d.getLsbD 7 = decide (128 ≤ d.toNat % 256) := by
  rw [BitVec.getLsbD, Nat.testBit_eq_decide_div_mod_eq, decide_eq_decide]
  omega

/-- Settles O31: the product of two bytes is a word, whose number gives the bytes of D and both flags. -/
theorem mulResult : Obligations.MulResult := by
  refine ⟨rfl, fun s => ⟨toNat_mul_toNat_le _ _, ?_⟩⟩
  rw [exec_mul, execMul]
  dsimp only [State.mapRegs, opMul, Regs.setD]
  rw [hiByte_eq_ofNat, loByte_eq_ofNat, getLsbD_seven_eq_decide, beq_zero_eq_decide, toNat_zext8_mul]

section
variable {a : Byte} {cc : CC} {low high : Prop} [Decidable low] [Decidable high]

/-- The correction of DAA, by the two conditions that R281 names. -/
theorem daaCorrection_eq (hlow : low ↔ cc.h = true ∨ 9 < a.toNat % 16)
    (hhigh : high ↔ cc.c = true ∨ 9 < a.toNat / 16 ∨ (8 < a.toNat / 16 ∧ 9 < a.toNat % 16)) :
    daaCorrection a cc = (if low then 0x06#8 else 0x00#8) ||| (if high then 0x60#8 else 0x00#8) := by
  have hlo : (a.extractLsb' 0 4).toNat = a.toNat % 16 := BitVec.extractLsb'_toNat 0 4 a
  have hhi : (a.extractLsb' 4 4).toNat = a.toNat / 16 := by
    rw [BitVec.extractLsb'_toNat, Nat.shiftRight_eq_div_pow]
    omega
  rw [daaCorrection, hlo, hhi]
  simp only [Bool.or_eq_true, Bool.and_eq_true, decide_eq_true_eq, gt_iff_lt, or_assoc, hlow, hhigh]

/-- DAA adds its correction as a number, and C says whether the high one applied. -/
theorem opDaa_eq (hlow : low ↔ cc.h = true ∨ 9 < a.toNat % 16)
    (hhigh : high ↔ cc.c = true ∨ 9 < a.toNat / 16 ∨ (8 < a.toNat / 16 ∧ 9 < a.toNat % 16)) :
    opDaa a cc =
      let r : Byte := BitVec.ofNat 8 (a.toNat + (if low then 6 else 0) + (if high then 96 else 0))
      (r, { signZero8 r cc with c := decide high, v := if Config.daaClearsV then false else cc.v }) := by
  have hcf := daaCorrection_eq hlow hhigh
  have hr : a + daaCorrection a cc = BitVec.ofNat 8 (a.toNat + (if low then 6 else 0) + (if high then 96 else 0)) := by
    rw [hcf, Nat.add_assoc, BitVec.ofNat_add, BitVec.ofNat_toNat, BitVec.setWidth_eq]
    split <;> split <;> rfl
  have hcarry : (cc.c || (daaCorrection a cc &&& 0x60#8) != 0x00#8) = decide high := by
    rw [hcf]
    by_cases h : high
    · rw [if_pos h, decide_eq_true h]
      split <;> exact Bool.or_true _
    · have hc : cc.c = false := eq_false_of_ne_true fun hc => h (hhigh.mpr (.inl hc))
      rw [if_neg h, decide_eq_false h, hc]
      split <;> rfl
  rw [opDaa]
  simp only [hr, hcarry, CC.nz8_eq_signZero8]

end

/-- Settles O32: `opDaa_eq`, by the conditions of the statement. -/
theorem daaResult : Obligations.DaaResult := by
  refine ⟨rfl, fun s => ?_⟩
  rw [exec_daa, execDaa, State.mapRegs, opDaa_eq Iff.rfl Iff.rfl]

/-- A byte extended by its sign has its own sign and is zero when it is. -/
theorem signZero16_extended (b : Byte) (cc : CC) :
    signZero16 (joinBytes (BitVec.ofNat 8 (255 * (decide (128 ≤ b.toNat)).toNat)) b) cc = signZero8 b cc := by
  have hb := b.isLt
  have hword : (joinBytes (BitVec.ofNat 8 (255 * (decide (128 ≤ b.toNat)).toNat)) b).toNat =
      b.toNat + if 128 ≤ b.toNat then 65280 else 0 := by
    rw [joinBytes_eq_ofNat, BitVec.toNat_ofNat, BitVec.toNat_ofNat]
    split
    · next h => rw [decide_eq_true h, Bool.toNat_true]; omega
    · next h => rw [decide_eq_false h, Bool.toNat_false]; omega
  have hn : 32768 ≤ b.toNat + (if 128 ≤ b.toNat then 65280 else 0) ↔ 128 ≤ b.toNat := by split <;> omega
  have hz : b.toNat + (if 128 ≤ b.toNat then 65280 else 0) = 0 ↔ b.toNat = 0 := by split <;> omega
  rw [signZero16, hword, decide_eq_decide.mpr hn, decide_eq_decide.mpr hz, signZero8]

theorem opSex_eq (b : Byte) (cc : CC) :
    opSex b cc = (BitVec.ofNat 8 (255 * (decide (128 ≤ b.toNat)).toNat),
      { signZero8 b cc with v := if Config.sexClearsV then false else cc.v }) := by
  have hext : (if bit b 7 then 0xFF#8 else 0x00#8) = BitVec.ofNat 8 (255 * (decide (128 ≤ b.toNat)).toNat) := by
    rw [bit_seven_eq_decide]
    cases decide (128 ≤ b.toNat) <;> rfl
  rw [opSex, hext, CC.nz16_eq_signZero16, signZero16_extended]

/-- Settles O33: the sign of B in every bit of A, and an unsigned sum. -/
theorem sexAndAbxResults : Obligations.SexAndAbxResults := by
  refine ⟨rfl, rfl, fun s => ?_, fun s => ?_⟩
  · rw [exec_sex, execSex, State.mapRegs, opSex_eq]
  · rw [exec_abx, execAbx, State.mapRegs, add_zext8]

/-! ### Decimal addition (R240, R281) -/

/-- The low correction applies exactly when the low digits carry. -/
theorem low_correction_iff {u i v j : Nat} (hi : i < 10) (hj : j < 10) :
    (15 < (16 * u + i) % 16 + (16 * v + j) % 16 ∨ 9 < (16 * u + i + (16 * v + j)) % 256 % 16) ↔ 9 < i + j := by
  omega

/-- The high correction applies exactly when the sum has three digits. -/
theorem high_correction_iff {u i v j : Nat} (hi : i < 10) (hj : j < 10) :
    let n := 16 * u + i + (16 * v + j)
    (255 < n ∨ 9 < n % 256 / 16 ∨ (8 < n % 256 / 16 ∧ 9 < n % 256 % 16)) ↔ 100 ≤ 10 * (u + v) + (i + j) := by
  intro n
  have hn : n = 16 * u + i + (16 * v + j) := rfl
  clear_value n
  omega

/-- The binary sum of two numbers of two decimal digits, corrected, has the two low digits of their sum:
a carry `k` out of the units and `l` out of the tens turn the base 16 of each digit into 10. -/
theorem corrected_sum {u i v j : Nat} (hu : u < 10) (hi : i < 10) (hv : v < 10) (hj : j < 10) :
    let z := 10 * (u + v) + (i + j)
    ((16 * u + i + (16 * v + j)) % 256 + (if 9 < i + j then 6 else 0) + (if 100 ≤ z then 96 else 0)) % 256 =
      16 * (z % 100 / 10) + z % 100 % 10 := by
  intro z
  obtain ⟨k, e, hk, he, hunits⟩ : ∃ k e, k ≤ 1 ∧ e < 10 ∧ i + j = 10 * k + e :=
    ⟨(i + j) / 10, (i + j) % 10, by omega, by omega, by omega⟩
  obtain ⟨l, t, hl, ht, htens⟩ : ∃ l t, l ≤ 1 ∧ t < 10 ∧ u + v + k = 10 * l + t :=
    ⟨(u + v + k) / 10, (u + v + k) % 10, by omega, by omega, by omega⟩
  have hlow : (if 9 < i + j then 6 else 0) = 6 * k := by split <;> omega
  have hhigh : (if 100 ≤ z then 96 else 0) = 96 * l := by split <;> omega
  have hsum : 16 * u + i + (16 * v + j) + 6 * k + 96 * l = 16 * t + e + 256 * l := by omega
  have hz : z % 100 = 10 * t + e := by omega
  calc ((16 * u + i + (16 * v + j)) % 256 + (if 9 < i + j then 6 else 0) + (if 100 ≤ z then 96 else 0)) % 256
      = (16 * t + e + 256 * l) % 256 := by rw [hlow, hhigh, Nat.add_assoc, Nat.mod_add_mod, ← Nat.add_assoc, hsum]
    _ = 16 * t + e := by omega
    _ = 16 * (z % 100 / 10) + z % 100 % 10 := by omega

theorem toNat_bcd {u i : Nat} (hu : u < 10) (hi : i < 10) : (BitVec.ofNat 8 (16 * u + i)).toNat = 16 * u + i := by
  rw [BitVec.toNat_ofNat]
  omega

/-- DAA after the sum of two decimal numbers: the two low digits of their sum, and a hundred in C. -/
theorem opDaa_add8 {a m : Byte} {u i v j : Nat} (hu : u < 10) (hi : i < 10) (hv : v < 10) (hj : j < 10)
    (ha : a.toNat = 16 * u + i) (hm : m.toNat = 16 * v + j) (cc : CC) :
    let z := 10 * (u + v) + (i + j)
    let r := add8 a m false cc
    (opDaa r.1 r.2).1 = BitVec.ofNat 8 (16 * (z % 100 / 10) + z % 100 % 10) ∧
      (opDaa r.1 r.2).2.c = decide (100 ≤ z) := by
  intro z r
  have hr : r = sum8 a m false cc := add8_eq_sum8 a m false cc
  have hbyte : r.1.toNat = (16 * u + i + (16 * v + j)) % 256 := by
    rw [hr, ← ha, ← hm]
    exact BitVec.toNat_ofNat _ 8
  have hh : r.2.h = true ↔ 15 < (16 * u + i) % 16 + (16 * v + j) % 16 := by
    rw [hr, ← ha, ← hm]
    exact decide_eq_true_iff
  have hc : r.2.c = true ↔ 255 < 16 * u + i + (16 * v + j) := by
    rw [hr, ← ha, ← hm]
    exact decide_eq_true_iff
  have hlow : 9 < i + j ↔ r.2.h = true ∨ 9 < r.1.toNat % 16 := by
    rw [hh, hbyte]
    exact (low_correction_iff hi hj).symm
  have hhigh : 100 ≤ z ↔ r.2.c = true ∨ 9 < r.1.toNat / 16 ∨ (8 < r.1.toNat / 16 ∧ 9 < r.1.toNat % 16) := by
    rw [hc, hbyte]
    exact (high_correction_iff hi hj).symm
  rw [opDaa_eq hlow hhigh]
  refine ⟨BitVec.eq_of_toNat_eq ?_, rfl⟩
  rw [BitVec.toNat_ofNat, hbyte, toNat_bcd (by omega) (by omega)]
  exact corrected_sum hu hi hv hj

/-- Settles O34: `opDaa_add8`, at the digits of the two numbers. -/
theorem decimalAddition : Obligations.DecimalAddition := by
  intro x y s hx hy bcd ha
  have hbcd : ∀ n < 100, (bcd n).toNat = 16 * (n / 10) + n % 10 := fun n hn => toNat_bcd (by omega) (by omega)
  have hsum : 10 * (x / 10 + y / 10) + (x % 10 + y % 10) = x + y := by omega
  have hdaa := opDaa_add8 (by omega) (by omega) (by omega) (by omega) (hbcd x hx) (hbcd y hy) s.regs.cc
  rw [hsum, ← ha] at hdaa
  exact ⟨_, _, exec_alu .add .a (.imm (bcd y)) s, exec_daa _, hdaa⟩

/-! ### Branches after a compare (R250, R360) -/

/-- The flags after a compare, as the order of the two numbers. -/
theorem diff8_flags (a m : Byte) (cc : CC) :
    let d := (diff8 a m false cc).2
    (d.c = true ↔ a.toNat < m.toNat) ∧ (d.z = true ↔ a.toNat = m.toNat) ∧ (d.n = d.v ↔ m.toInt ≤ a.toInt) := by
  intro d
  refine ⟨decide_eq_true_iff, decide_eq_true_iff.trans ?_, ?_⟩
  · rw [BitVec.toNat_ofInt, Bool.toNat_false]
    omega
  · have ha := toInt_range (w := 7) a
    have hm := toInt_range (w := 7) m
    have hwraps := toInt_ofInt_wraps (w := 7) (n := a.toInt - m.toInt - 0) (by omega) (by omega)
    rw [← ofInt_toNat_difference] at hwraps
    have hn : d.n = decide ((BitVec.ofInt (7 + 1) ((a.toNat : Int) - m.toNat - 0)).toInt < 0) :=
      (bit_seven_eq_decide _).symm.trans (getLsbD_eq_decide_neg _)
    have hv : d.v = decide (a.toInt - m.toInt - 0 < -128 ∨ 127 < a.toInt - m.toInt - 0) := rfl
    rw [hn, hv, decide_eq_decide]
    omega

/-- Flags that stand for the order of two numbers: the conditional branches follow it. -/
theorem conditions_of_order {d : CC} {a m : Byte} (hc : d.c = true ↔ a.toNat < m.toNat)
    (hz : d.z = true ↔ a.toNat = m.toNat) (hn : d.n = d.v ↔ m.toInt ≤ a.toInt) :
    (condition .hi d = true ↔ m.toNat < a.toNat) ∧ (condition .ls d = true ↔ a.toNat ≤ m.toNat) ∧
    (condition .hs d = true ↔ m.toNat ≤ a.toNat) ∧ (condition .lo d = true ↔ a.toNat < m.toNat) ∧
    (condition .gt d = true ↔ m.toInt < a.toInt) ∧ (condition .le d = true ↔ a.toInt ≤ m.toInt) ∧
    (condition .ge d = true ↔ m.toInt ≤ a.toInt) ∧ (condition .lt d = true ↔ a.toInt < m.toInt) ∧
    (condition .eq d = true ↔ a = m) ∧ (condition .ne d = true ↔ a ≠ m) := by
  have hsigned : a.toNat = m.toNat ↔ a.toInt = m.toInt := by rw [← BitVec.toNat_eq, BitVec.toInt_inj]
  simp only [condition, Bool.or_eq_true, Bool.and_eq_true, beq_iff_eq, bne_iff_ne, ne_eq, ← Bool.not_eq_true, hc, hz,
    hn, BitVec.toNat_eq, true_and, and_true]
  omega

/-- Settles O38: the flags of a compare stand for the order of the two numbers, and the conditions read it off them. -/
theorem compareThenBranch : Obligations.CompareThenBranch := by
  intro m s
  obtain ⟨hc, hz, hn⟩ := diff8_flags s.regs.a m s.regs.cc
  exact ⟨_, accumulatorOperations.2 .cmp .a (.imm m) s, conditions_of_order hc hz hn⟩

end Sys2Proof.Machine

/-! ## Control transfer (spec/43_control_transfer.md R360 to R404)

A branch is a change of PC alone; BSR, LBSR and JSR are one operation, the call of an address, which is a push and a
change of PC. -/

namespace Sys2Proof.Machine
open Sys2Proof.Reference

/-! ### Branches (R360, R361) -/

/-- The test of the flags that the meaning of a branch makes. -/
def branchTest (c : Cond) (cc : CC) : Bool :=
  match c with
  | .ra => true
  | .rn => false
  | .hi => cc.isHi
  | .ls => cc.isLs
  | .hs => !cc.c
  | .lo => cc.c
  | .ne => !cc.z
  | .eq => cc.z
  | .vc => !cc.v
  | .vs => cc.v
  | .pl => !cc.n
  | .mi => cc.n
  | .ge => cc.isGe
  | .lt => cc.isLt
  | .gt => cc.isGt
  | .le => cc.isLe

theorem branchTest_eq_condition (c : Cond) (cc : CC) : branchTest c cc = condition c cc := by
  cases c
  case ra | rn => rfl
  case hs | ne | vc | pl | lo | eq | vs | mi => simp [branchTest, condition]
  case hi => simp [branchTest, condition, CC.isHi]
  case ls => simp [branchTest, condition, CC.isLs]
  case ge => exact Bool.not_not _
  case lt => rfl
  case gt => exact congrArg₂ and (beq_false cc.z).symm (Bool.not_not _)
  case le => simp [branchTest, condition, CC.isLe]

/-- A short offset added to PC, on integers modulo 2^16. -/
theorem add_sext8 (pc : Word) (off : Byte) : pc + sext8 off = BitVec.ofInt 16 (pc.toNat + off.toInt) :=
  (ofInt_toNat_add pc off.toInt).symm

/-- A long offset added to PC, on integers modulo 2^16. -/
theorem add_eq_ofInt (pc off : Word) : pc + off = BitVec.ofInt 16 (pc.toNat + off.toInt) := by
  rw [ofInt_toNat_add, BitVec.ofInt_toInt]

section
variable (s : State)

theorem exec_shortBranch (c : Cond) (off : Byte) :
    exec (.shortBranch c off) s = .next (s.branch (branchTest c s.regs.cc) (sext8 off)) := by
  cases c <;> rfl

theorem exec_longBranch (c : Cond) (off : Word) :
    exec (.longBranch c off) s = .next (s.branch (branchTest c s.regs.cc) off) := by
  cases c <;> rfl

end

/-- Settles O37: every branch runs one shape, which changes PC alone, and its test of the flags is its condition. -/
theorem branches : Obligations.Branches := by
  intro c s
  constructor
  · intro off
    rw [exec_shortBranch, State.branch_eq, branchTest_eq_condition, add_sext8]
    rfl
  · intro off
    rw [exec_longBranch, State.branch_eq, branchTest_eq_condition, add_eq_ofInt]
    rfl

/-! ### Calls (R400, R401, R403) -/

section
variable (s : State)

/-- The call of an address: PC is pushed on S, then set. -/
def State.callTo (target : Word) : State := (s.push16 .s s.regs.pc).setPC target

theorem State.branchSub_eq_callTo (off : Word) : s.branchSub off = s.callTo (s.regs.pc + off) := by
  simp [State.branchSub, State.callTo, StackReg.reg]

theorem exec_bsr (off : Byte) :
    exec (.bsr off) s = .next (s.callTo (BitVec.ofInt 16 (s.regs.pc.toNat + off.toInt))) := by
  rw [← add_sext8, ← State.branchSub_eq_callTo]
  rfl

theorem exec_lbsr (off : Word) :
    exec (.lbsr off) s = .next (s.callTo (BitVec.ofInt 16 (s.regs.pc.toNat + off.toInt))) := by
  rw [← add_eq_ofInt, ← State.branchSub_eq_callTo]
  rfl

theorem exec_jsr (m : MemOperand) : exec (.jsr m) s = .next ((s.ea m).2.callTo (s.ea m).1) := by
  cases m <;> rfl

theorem exec_jmp (m : MemOperand) : exec (.jmp m) s = .next (s.jump m) := by
  cases m <;> rfl

/-- PC does not change while an address is computed. -/
theorem State.ea_pc (m : MemOperand) : (s.ea m).2.regs.pc = s.regs.pc := by
  cases m with
  | dir lo => rfl
  | ext a => rfl
  | idx ix =>
    rw [State.ea, State.indexedEA_regs]
    obtain hregs | ⟨k, v, hregs⟩ := indexAddress_regs ix.form s.regs
    · rw [hregs]
    · rw [hregs, Regs.setBase_pc]

/-- What a call from `s` leads to in `t`, where `e` is `s` after its address step: of the registers of `e` only S and PC
have changed, and of the cells of `s` only the two below S; where these are Ram they hold the PC of `s`, and nothing else
of `e` has changed. -/
def State.Called (s e t : State) (target : Word) : Prop :=
  let base := e.regs.s - 2#16
  t.regs = { e.regs with s := base, pc := target } ∧
    (∀ a, Outside base 2 a → t.peek a = s.peek a) ∧
    (RamFrom s base 2 → SameOutside e t ∧ Stored s t base (wordBytes s.regs.pc))

/-- A call after a step that has changed no cell, no tag and not PC. -/
theorem State.callTo_called {s e : State} (hmem : e.mem = s.mem) (htags : e.tags = s.tags)
    (hpc : e.regs.pc = s.regs.pc) (target : Word) : s.Called e (e.callTo target) target := by
  have hpushed : State.Pushed .s e (e.push16 .s e.regs.pc) (wordBytes e.regs.pc) :=
    (State.Pushed.nil .s e).push16 (by decide) e.regs.pc
  have hother : ∀ a, Outside (e.regs.s - 2#16) 2 a → (e.callTo target).peek a = s.peek a :=
    fun a ha => (hpushed.other a ha).trans (State.peek_congr hmem a)
  refine ⟨congrArg (fun r : Regs => { r with pc := target }) hpushed.regs, hother, fun hram => ?_⟩
  have hram' : RamFrom e (e.regs.s - 2#16) 2 := by simpa only [RamFrom, State.tagOf, htags] using hram
  obtain ⟨hsame, hstored⟩ := hpushed.ram hram'
  obtain ⟨hbytes, -⟩ : Stored e (e.callTo target) (e.regs.s - 2#16) (wordBytes e.regs.pc) := hstored.of_mem_eq rfl
  rw [hpc] at hbytes
  exact ⟨hsame.mapRegs fun r => { r with pc := target }, hbytes, hother⟩

/-! ### RTS (R404) -/

theorem exec_rts : exec .rts s = .next s.returnSub := rfl

theorem State.returnSub_regs : s.returnSub.regs = { s.regs with s := s.regs.s + 2#16, pc := s.returnSub.regs.pc } := by
  simp [State.returnSub, StackReg.reg, Regs.setBase, Regs.base]

/-- A pull of two cells without side effects gives their word and moves the pointer, and nothing else. -/
theorem State.pull16_plainFrom {k : StackReg} {s : State} (h : PlainFrom s (s.regs.base k.reg) 2) :
    s.pull16 k =
      (wordAt s (s.regs.base k.reg), s.mapRegs (Regs.setBase k.reg (s.regs.base k.reg + 2#16))) := by
  have hpull := State.pull16_filled (k := k) (r := s.regs) (armed := false) h
  rw [State.filled_start, State.filled, Bool.or_false] at hpull
  exact hpull

theorem State.returnSub_plainFrom {s : State} (h : PlainFrom s s.regs.s 2) :
    s.returnSub = { s with regs := { s.regs with s := s.regs.s + 2#16, pc := wordAt s s.regs.s } } := by
  rw [State.returnSub, State.pull16_plainFrom (k := .s) h]
  rfl

end

/-- Settles O39: JMP changes PC after the address step; JSR, BSR and LBSR are calls; RTS is a pull of PC. -/
theorem jumpsAndCalls : Obligations.JumpsAndCalls :=
  ⟨fun m s => exec_jmp s m,
    fun m s => ⟨_, exec_jsr s m, State.callTo_called (State.ea_mem m s) (State.ea_tags m s) (s.ea_pc m) _⟩,
    fun off s => ⟨_, exec_bsr s off, State.callTo_called rfl rfl rfl _⟩,
    fun off s => ⟨_, exec_lbsr s off, State.callTo_called rfl rfl rfl _⟩,
    fun s => ⟨⟨_, exec_rts s, congrArg Contents.mem s.returnSub_contents, s.returnSub_regs⟩,
      fun h => congrArg Host.Outcome.next (State.returnSub_plainFrom h)⟩⟩

end Sys2Proof.Machine

/-! ## Waiting, interrupts and the return from them (spec/44_system.md R411 to R417, spec/60_exceptions.md R440, R447)

CWAI is a push of the entire state; RTI is a pull of one of two register lists; the entry of an interrupt is an
exception after its latch is cleared. -/

namespace Sys2Proof.Machine
open Sys2Proof.Reference

/-! ### CC as a byte (R37) -/

theorem CC.ofByte_toByte (cc : CC) : CC.ofByte cc.toByte = cc := by
  obtain ⟨e, f, h, i, n, z, v, c⟩ := cc
  revert e f h i n z v c
  decide

theorem CC.ofByte_and (b m : Byte) : CC.ofByte (b &&& m) = (CC.ofByte b).and (CC.ofByte m) := by
  simp only [CC.ofByte, CC.and, bit, BitVec.getLsbD_and]

/-- E is bit 7 of CC. -/
theorem CC.ofByte_or_entire (b : Byte) : CC.ofByte (b ||| 0x80#8) = { CC.ofByte b with e := true } := by
  simp [CC.ofByte, bit]

/-- The CC that CWAI stacks, as a byte (R413). -/
theorem CC.toByte_masked (cc : CC) (m : Byte) :
    ({ cc.and (CC.ofByte m) with e := true } : CC).toByte = (cc.toByte &&& m) ||| 0x80#8 := by
  have hmasked : { cc.and (CC.ofByte m) with e := true } = CC.ofByte ((cc.toByte &&& m) ||| 0x80#8) := by
    rw [CC.ofByte_or_entire, CC.ofByte_and, CC.ofByte_toByte]
  rw [hmasked, CC.toByte_ofByte]

/-! ### CWAI and SYNC (R412, R413) -/

theorem exec_sync (s : State) : exec .sync s = .next { s with cpuState := .syncing } := rfl

theorem exec_cwai (m : Byte) (s : State) : exec (.cwai m) s = .next (s.waitForInterrupt (CC.ofByte m)) := rfl

/-- CWAI pushes the entire state with the masked CC and E set, and then only `cpuState` changes. -/
theorem State.waitForInterrupt_pushed (mask : CC) (s : State) :
    let cc := { s.regs.cc.and mask with e := true }
    ∃ t, s.waitForInterrupt mask = { t with cpuState := .waitingInterrupt } ∧
      State.Pushed .s (s.setCC cc) t (entireFrame { s.regs with cc := cc }) :=
  ⟨_, rfl, State.pushEntire_pushed _⟩

/-- Settles O41: SYNC changes one field, and the push of CWAI is that of an entire state with the masked CC. -/
theorem waitInstructions : Obligations.WaitInstructions := by
  refine ⟨exec_sync, fun m s => ?_⟩
  obtain ⟨t, hwait, hregs, -, hother, hram⟩ := s.waitForInterrupt_pushed (CC.ofByte m)
  refine ⟨_, _, (exec_cwai m s).trans (congrArg _ hwait), CC.toByte_masked s.regs.cc m, rfl, hregs, hother,
    fun hcells => ?_⟩
  obtain ⟨hsame, hstored⟩ := hram hcells
  obtain ⟨r, mem, rfl⟩ := sameOutside_iff.mp hsame
  exact ⟨rfl, hstored.of_mem_eq rfl⟩

/-! ### RTI (R417, R447) -/

theorem exec_rti (s : State) : exec .rti s = .next s.returnFromInterrupt := rfl

/-- A pull of one byte into a register other than S. -/
theorem State.pullReg8_eq {k : StackReg} {q : Reg} (hq : q ≠ .s) {f : Byte → Regs → Regs}
    (hf : ∀ w r, r.put q w = f (loByte w) r) (s : State) :
    s.pullReg8 k q = (s.pull8 k).2.mapRegs (f (s.pull8 k).1) := by
  have hput : Regs.put q (zext8 (s.pull8 k).1) = f (s.pull8 k).1 := by
    funext r
    rw [hf, loByte_zext8]
  rw [State.pullReg8, State.writeReg, if_neg hq, hput]

section
variable (s : State)

theorem State.pullReg8_cc : s.pullReg8 .s .cc = (s.pull8 .s).2.setCC (CC.ofByte (s.pull8 .s).1) :=
  State.pullReg8_eq (q := .cc) (f := fun v r => { r with cc := CC.ofByte v }) (by decide) (fun _ _ => rfl) s

theorem State.pullReg8_a : s.pullReg8 .s .a = (s.pull8 .s).2.mapRegs fun r => { r with a := (s.pull8 .s).1 } :=
  State.pullReg8_eq (q := .a) (f := fun v r => { r with a := v }) (by decide) (fun _ _ => rfl) s

theorem State.pullReg8_b : s.pullReg8 .s .b = (s.pull8 .s).2.mapRegs fun r => { r with b := (s.pull8 .s).1 } :=
  State.pullReg8_eq (q := .b) (f := fun v r => { r with b := v }) (by decide) (fun _ _ => rfl) s

theorem State.pullReg8_dp : s.pullReg8 .s .dp = (s.pull8 .s).2.mapRegs fun r => { r with dp := (s.pull8 .s).1 } :=
  State.pullReg8_eq (q := .dp) (f := fun v r => { r with dp := v }) (by decide) (fun _ _ => rfl) s

/-- The E that RTI tests is bit 7 of the byte it has pulled. -/
theorem State.pullReg8_cc_entire : (s.pullReg8 .s .cc).regs.cc.e = bit (s.pull8 .s).1 7 := by
  rw [State.pullReg8_cc]
  rfl

theorem State.pullList_all : s.pullList .s 0xFF#8 =
    (s.pullReg8 .s .cc |>.pullReg8 .s .a |>.pullReg8 .s .b |>.pullReg8 .s .dp |>.pullReg16 .s .x
      |>.pullReg16 .s .y |>.pullReg16 .s .u |>.pullReg16 .s .pc) := rfl

theorem State.pullList_cc_pc : s.pullList .s 0x81#8 = (s.pullReg8 .s .cc).pullReg16 .s .pc := rfl

/-- RTI is PULS of every register but S when the pulled E is 1, and of CC and PC when it is 0 (R417). -/
theorem State.returnFromInterrupt_eq_pullList :
    s.returnFromInterrupt = s.pullList .s (if bit (s.pull8 .s).1 7 then 0xFF#8 else 0x81#8) := by
  rw [State.returnFromInterrupt]
  dsimp only
  rw [← State.pullReg8_cc, State.pullReg8_cc_entire]
  cases bit (s.pull8 .s).1 7 with
  | false => exact s.pullList_cc_pc.symm
  | true =>
    rw [if_pos rfl, if_pos rfl, State.pullList_all]
    simp only [← State.pullReg8_a, ← State.pullReg8_b, ← State.pullReg8_dp]
    rfl

end

/-- RTI from cells without side effects fills the registers of the list `pb` that the E on top of the stack chooses. -/
theorem State.returnFromInterrupt_plain {s : State} {pb : Byte} {n : Nat}
    (hpb : (if bit (s.peek s.regs.s) 7 then 0xFF#8 else 0x81#8) = pb) (hsize : listSize pb = n + 1)
    (h : PlainFrom s s.regs.s (n + 1)) :
    s.returnFromInterrupt = { s with
      regs := { pulled pb putU (bytesFrom s s.regs.s (n + 1)) s.regs with
        s := s.regs.s + BitVec.ofNat 16 (n + 1) } } := by
  obtain ⟨htop, -⟩ := (plainFrom_succ s s.regs.s n).mp h
  have hpulled : (s.pull8 .s).1 = s.peek s.regs.s := congrArg Prod.fst (State.pull8_plain (k := .s) htop)
  obtain ⟨-, -, hputs, -⟩ := pullResults pb s
  rw [hsize] at hputs
  rw [State.returnFromInterrupt_eq_pullList, hpulled, hpb]
  exact Host.Outcome.next.inj (hputs h)

/-- Settles O42: RTI is a pull of twelve bytes or of three. -/
theorem returnFromInterrupt : Obligations.ReturnFromInterrupt := fun s =>
  ⟨⟨_, exec_rti s, congrArg Contents.mem s.returnFromInterrupt_contents⟩,
    fun he h => (exec_rti s).trans
      (congrArg _ (State.returnFromInterrupt_plain (pb := 0xFF#8) (n := 11) (by rw [he]; rfl) rfl h)),
    fun he h => (exec_rti s).trans
      (congrArg _ (State.returnFromInterrupt_plain (pb := 0x81#8) (n := 2) (by rw [he]; rfl) rfl h))⟩

/-! ### The entry of an interrupt (R430, R440) -/

/-- A running machine that is not suspended enters the request it can accept. -/
theorem cpuStep_of_acceptable {s : State} {e : Event} (hrun : s.exe.suspended = false) (hcpu : s.cpuState = .running)
    (he : s.acceptable = some e) : cpuStep s = .next (s.enterInterrupt e) := by
  have haction : s.cpuAction = .enter e := by rw [State.cpuAction, hcpu, he]
  rw [cpuStep, if_neg (by simp [hrun]), haction]

/-- The entry is an exception after the latch is cleared, which touches no register. -/
theorem State.enterInterrupt_entered (e : Event) (s : State) :
    let cc := { s.regs.cc with e := e.entire }
    Entered e.vector (e.mask cc) (e.frame { s.regs with cc := cc }) (s.acknowledge e) (s.enterInterrupt e) :=
  (s.acknowledge e).takeException_entered e

/-- Settles O44: the step of each of the three requests, and the exception it takes. -/
theorem interruptEntry : Obligations.InterruptEntry := fun s hrun hcpu =>
  ⟨fun he => ⟨_, cpuStep_of_acceptable hrun hcpu he, s.enterInterrupt_entered .nmi⟩,
    fun he => ⟨_, cpuStep_of_acceptable hrun hcpu he, s.enterInterrupt_entered .firq⟩,
    fun he => ⟨_, cpuStep_of_acceptable hrun hcpu he, s.enterInterrupt_entered .irq⟩⟩

end Sys2Proof.Machine

/-! ## Illegal bytes, fatal events, and that every step answers (spec/60_exceptions.md R430 to R434, spec/65_executive.md R657)

The decoder asks for no byte past the longest encoding, so a fetch of illegal bytes ends at the first of them that shows
it; the check at the end of the CPU step then halts the machine. -/

namespace Sys2Proof

/-! ### When the decoder asks for more bytes (R120) -/

theorem Decoded.map_ne_truncated {α β : Type} (f : α → β) {d : Decoded α} (h : d ≠ .error .truncated) :
    Decoded.map f d ≠ .error .truncated := by
  cases d with
  | ok v => exact nofun
  | error e =>
    rintro ⟨⟩
    exact h rfl

section
variable {bs : List Byte}

theorem decodeByte_ne_truncated (h : 1 ≤ bs.length) : decodeByte bs ≠ .error .truncated := by
  match bs, h with
  | _ :: _, _ => exact nofun

theorem decodeWord_ne_truncated (h : 2 ≤ bs.length) : decodeWord bs ≠ .error .truncated := by
  match bs, h with
  | _ :: _ :: _, _ => exact nofun

theorem decodeIndexedForm_ne_truncated (pb : Byte) (h : 2 ≤ bs.length) :
    decodeIndexedForm pb bs ≠ .error .truncated := by
  unfold decodeIndexedForm
  dsimp only
  split
  case h_1 | h_3 => split <;> exact nofun
  case h_8 | h_11 => exact Decoded.map_ne_truncated _ (decodeByte_ne_truncated (by omega))
  case h_9 | h_12 => exact Decoded.map_ne_truncated _ (decodeWord_ne_truncated h)
  case h_13 =>
    split
    · exact Decoded.map_ne_truncated _ (decodeWord_ne_truncated h)
    · exact nofun
  all_goals exact nofun

theorem decodeIndexed_ne_truncated (h : 3 ≤ bs.length) : decodeIndexed bs ≠ .error .truncated := by
  match bs, h with
  | pb :: rest, h =>
    rw [decodeIndexed]
    split
    · exact decodeIndexedForm_ne_truncated pb (Nat.le_of_succ_le_succ h)
    · exact nofun

theorem decodePair_ne_truncated (h : 1 ≤ bs.length) : decodePair bs ≠ .error .truncated := by
  match bs, h with
  | pb :: rest, _ =>
    rw [decodePair]
    split
    · split <;> exact nofun
    · exact nofun

/-- An indexed operand is the longest thing that follows an opcode (R122, R131). -/
theorem Shape.decode_ne_truncated (sh : Shape) (h : 3 ≤ bs.length) : sh.decode bs ≠ .error .truncated := by
  cases sh with
  | inh i => exact nofun
  | byte f => exact Decoded.map_ne_truncated f (decodeByte_ne_truncated (by omega))
  | word f => exact Decoded.map_ne_truncated f (decodeWord_ne_truncated (by omega))
  | idx f => exact Decoded.map_ne_truncated f (decodeIndexed_ne_truncated h)
  | pair f => exact Decoded.map_ne_truncated _ (decodePair_ne_truncated (by omega))

theorem decodeAfter_ne_truncated (page : Nat) (op : Byte) (o : Option Shape) (h : 3 ≤ bs.length) :
    decodeAfter page op o bs ≠ .error .truncated := by
  cases o with
  | none => exact nofun
  | some sh => exact sh.decode_ne_truncated h

theorem decodePage_ne_truncated (page : Nat) (rows : List (Byte × Shape)) (h : 4 ≤ bs.length) :
    decodePage page rows bs ≠ .error .truncated := by
  match bs, h with
  | op :: rest, h => exact decodeAfter_ne_truncated page op _ (Nat.le_of_succ_le_succ h)

/-- As many bytes as the longest encoding has are never too few (R120). -/
theorem decode_ne_truncated (h : maxLength ≤ bs.length) : decode bs ≠ .error .truncated := by
  match bs, h with
  | op :: rest, h =>
    have hrest : 4 ≤ rest.length := Nat.le_of_succ_le_succ h
    rw [decode]
    split_ifs
    · exact decodePage_ne_truncated 2 page2 hrest
    · exact decodePage_ne_truncated 3 page3 hrest
    · exact decodeAfter_ne_truncated 1 op _ (Nat.le_of_succ_le hrest)

end

end Sys2Proof

namespace Sys2Proof.Machine
open Sys2Proof.Reference

theorem length_bytesFrom (s : State) (a : Word) (n : Nat) : (bytesFrom s a n).length = n := by
  induction n generalizing a with
  | zero => rfl
  | succ n ih => rw [bytesFrom, List.length_cons, ih]

theorem State.bytesFrom_setPC (s : State) (pc a : Word) (n : Nat) : bytesFrom (s.setPC pc) a n = bytesFrom s a n :=
  bytesFrom_congr fun _ _ => rfl

/-! ### The fetch of illegal bytes (R430, R433) -/

section
variable {s : State} {fuel n : Nat} {seen : List Byte} {e : DecodeError}

theorem State.fetch8_plain (h : Plain s s.regs.pc) :
    s.fetch8 = (s.peek s.regs.pc, s.setPC (s.regs.pc + 1#16)) := by
  rw [State.fetch8, State.readByte_plain h]

/-- While the bytes are too few, the loop goes on with one byte more. -/
theorem State.fetchLoop_truncated (h : decode (seen ++ [s.fetch8.1]) = .error .truncated) :
    s.fetchLoop (fuel + 1) seen = s.fetch8.2.fetchLoop fuel (seen ++ [s.fetch8.1]) := by
  simp only [State.fetchLoop, h]

/-- At a byte that makes the bytes illegal, the loop ends. -/
theorem State.fetchLoop_rejected (h : decode (seen ++ [s.fetch8.1]) = .error e) (he : e ≠ .truncated) :
    s.fetchLoop (fuel + 1) seen = (none, s.fetch8.2.recordBytes (seen ++ [s.fetch8.1])) := by
  cases e with
  | truncated => exact absurd rfl he
  | illegalOpcode page op => simp only [State.fetchLoop, h]
  | illegalIndexed pb => simp only [State.fetchLoop, h]
  | illegalRegisterPair pb => simp only [State.fetchLoop, h]

/-- The loop takes `n + 1` bytes when the last of them is the first that makes the bytes illegal. -/
theorem State.fetchLoop_illegal (hfuel : n ≤ fuel) (hplain : PlainFrom s s.regs.pc (n + 1))
    (hshort : ∀ m < n, decode (seen ++ bytesFrom s s.regs.pc (m + 1)) = .error .truncated)
    (hill : decode (seen ++ bytesFrom s s.regs.pc (n + 1)) = .error e) (he : e ≠ .truncated) :
    s.fetchLoop (fuel + 1) seen =
      (none, (s.setPC (s.regs.pc + BitVec.ofNat 16 (n + 1))).recordBytes (seen ++ bytesFrom s s.regs.pc (n + 1))) := by
  induction n generalizing s fuel seen with
  | zero =>
    obtain ⟨hhead, -⟩ := (plainFrom_succ s s.regs.pc 0).mp hplain
    have hfetch := State.fetch8_plain hhead
    rw [State.fetchLoop_rejected (by rw [hfetch]; exact hill) he, hfetch]
    rfl
  | succ n ih =>
    obtain ⟨fuel, rfl⟩ := Nat.exists_eq_add_one_of_ne_zero (Nat.ne_zero_of_lt hfuel)
    obtain ⟨hhead, htail⟩ := (plainFrom_succ s s.regs.pc (n + 1)).mp hplain
    have hfetch := State.fetch8_plain hhead
    have hbytes : ∀ m, (seen ++ [s.peek s.regs.pc]) ++
        bytesFrom (s.setPC (s.regs.pc + 1#16)) (s.setPC (s.regs.pc + 1#16)).regs.pc m =
          seen ++ bytesFrom s s.regs.pc (m + 1) := fun m => by
      rw [State.bytesFrom_setPC, List.append_assoc]
      rfl
    have hpc : s.regs.pc + 1#16 + BitVec.ofNat 16 (n + 1) = s.regs.pc + BitVec.ofNat 16 (n + 1 + 1) := by bv_omega
    have hrest := ih (s := s.setPC (s.regs.pc + 1#16)) (seen := seen ++ [s.peek s.regs.pc]) (Nat.le_of_succ_le_succ hfuel)
      htail (fun m hm => by rw [hbytes]; exact hshort _ (Nat.succ_lt_succ hm)) (by rw [hbytes]; exact hill)
    rw [State.fetchLoop_truncated (by rw [hfetch]; exact hshort 0 n.succ_pos), hfetch, hrest, hbytes, ← hpc]
    rfl

/-- A fetch of bytes that become illegal at the `n`th takes these, and no more. -/
theorem State.fetch_illegal (hshort : ∀ m < n, decode (bytesFrom s s.regs.pc m) = .error .truncated)
    (hill : decode (bytesFrom s s.regs.pc n) = .error e) (he : e ≠ .truncated) (hplain : PlainFrom s s.regs.pc n) :
    s.fetch = (none, afterFetch s n) := by
  cases n with
  | zero => exact absurd (Except.error.inj hill).symm he
  | succ n =>
    have hlength : n < maxLength := by
      by_contra hlong
      refine decode_ne_truncated ?_ (hshort n n.lt_succ_self)
      rwa [length_bytesFrom, ← Nat.not_lt]
    have hbytes : ∀ m, [] ++ bytesFrom { s with lastPc := s.regs.pc } s.regs.pc m = bytesFrom s s.regs.pc m :=
      fun _ => bytesFrom_congr fun _ _ => rfl
    have hloop := State.fetchLoop_illegal (s := { s with lastPc := s.regs.pc }) (seen := []) (Nat.le_of_lt_succ hlength)
      hplain (fun m hm => by rw [hbytes]; exact hshort _ (Nat.succ_lt_succ hm)) (by rw [hbytes]; exact hill) he
    rwa [hbytes] at hloop

end

/-! ### The CPU step by its action (R430) -/

section
variable {s : State}

theorem cpuStep_stay (h : s.cpuAction = .stay) : cpuStep s = .next s := by
  rw [cpuStep, h, ite_self]

theorem cpuStep_execute (hrun : s.exe.suspended = false) (h : s.cpuAction = .execute) : cpuStep s = executeNext s := by
  rw [cpuStep, hrun, h]
  rfl

theorem cpuStep_wake {e : Event} (hrun : s.exe.suspended = false) (h : s.cpuAction = .wake e) :
    cpuStep s = .next (s.wakeFromWait e) := by
  rw [cpuStep, hrun, h]
  rfl

theorem cpuStep_unsync (hrun : s.exe.suspended = false) (h : s.cpuAction = .unsync) :
    cpuStep s = .next { s with cpuState := .running } := by
  rw [cpuStep, hrun, h]
  rfl

theorem cpuStep_of_ready (h : Ready s) : cpuStep s = executeNext s := by
  obtain ⟨-, hrun, hcpu, hnone⟩ := h
  exact cpuStep_execute hrun (by rw [State.cpuAction, hcpu, hnone])

end

/-! ### The fatal check (R434, R657) -/

/-- The iteration of a machine that is not halted is its CPU step and the rest. -/
theorem step_of_cpuStep {s t : State} (hlive : s.exe.halted = none) (h : cpuStep s = .next t) :
    step s = .next t.finishIteration := by
  rw [step, hlive, h]

theorem State.finishIteration_fatal {s : State} {code : FatalCode} (h : s.fatalCode = some code) :
    s.finishIteration = haltedWith code s := by
  rw [State.finishIteration, h]
  rfl

/-- IllegalOpcode, raised after the fetch: PC is at the first byte again (R433). -/
theorem raiseIllegal_afterFetch (s : State) (n : Nat) :
    (afterFetch s n).raiseIllegal =
      { s with lastPc := s.regs.pc, lastOpcodeBytes := bytesFrom s s.regs.pc n, cpuState := .exception } := rfl

/-- Settles O6: the CPU step of illegal bytes raises IllegalOpcode, and the check after it finds the code of any fatal
event. -/
theorem fatalEventsHalt : Obligations.FatalEventsHalt := by
  refine ⟨fun s t code hlive hstep hcpu hfatal => ?_, fun s n e hready hshort hill he hplain => ?_⟩
  · have hcode : t.fatalCode = some code := (if_neg hcpu).trans hfatal
    rw [step_of_cpuStep hlive hstep, State.finishIteration_fatal hcode]
  · have hlive : s.exe.halted = none := hready.1
    have hraise : cpuStep s = .next (afterFetch s n).raiseIllegal := by
      rw [cpuStep_of_ready hready, executeNext, State.fetch_illegal hshort hill he hplain]
    have hcode : (afterFetch s n).raiseIllegal.fatalCode = some .illegalOpcode := if_pos rfl
    rw [step_of_cpuStep hlive hraise, State.finishIteration_fatal hcode, raiseIllegal_afterFetch]

/-! ### Every step answers (R430, R434) -/

theorem executeNext_answers (s : State) : ∃ t, executeNext s = .next t := by
  unfold executeNext
  dsimp only
  split
  · next i _ =>
    obtain ⟨t, ht, -⟩ := exec_effect i s.fetch.2
    exact ⟨t, ht⟩
  · exact ⟨_, rfl⟩

theorem cpuStep_answers (s : State) : ∃ t, cpuStep s = .next t := by
  unfold cpuStep
  split
  · exact ⟨s, rfl⟩
  · split
    case h_2 => exact executeNext_answers s
    all_goals exact ⟨_, rfl⟩

/-- Settles O7: every instruction completes, and so does every CPU step. -/
theorem everyStepAnswers : Obligations.EveryStepAnswers := by
  refine fun s => ⟨fun hlive => ?_, fun code hhalted => ?_⟩
  · obtain ⟨t, ht⟩ := cpuStep_answers s
    exact ⟨_, step_of_cpuStep hlive ht⟩
  · rw [step, hhalted]

end Sys2Proof.Machine

/-! ## Requests, waiting, and the way back from an interrupt (spec/60_exceptions.md R436 to R447)

The request a step takes is a hardware event; RTI undoes the entry of any event, because what it pulls is the frame that
the entry has pushed. -/

namespace Sys2Proof.Machine
open Sys2Proof.Reference

/-! ### The acceptable request (R436, R437) -/

/-- Settles O43: by the first of the three conditions that holds. -/
theorem acceptableRequests : Obligations.AcceptableRequests := by
  intro s nmi firq irq
  have hchoice : s.acceptable =
      if nmi then some .nmi else if firq then some .firq else if irq then some .irq else none := by
    simp [State.acceptable, nmi, firq, irq]
  rw [hchoice]
  by_cases hnmi : nmi
  · simp [hnmi]
  by_cases hfirq : firq
  · simp [hnmi, hfirq]
  by_cases hirq : irq <;> simp [hnmi, hfirq, hirq]

/-- NMI, FIRQ and IRQ: the events that have a latch (R44). -/
def Event.Hardware (e : Event) : Prop := e = .nmi ∨ e = .firq ∨ e = .irq

theorem State.acceptable_hardware {s : State} {e : Event} (h : s.acceptable = some e) : e.Hardware := by
  unfold State.acceptable at h
  split_ifs at h <;> cases h
  · exact .inl rfl
  · exact .inr (.inl rfl)
  · exact .inr (.inr rfl)

/-! ### The wake from CWAI and SYNC (R441, R442) -/

section
variable {e : Event}

/-- A request clears its own latch (R437). -/
theorem Event.Hardware.clearLatch_eq (h : e.Hardware) (l : Lines) :
    e.clearLatch l = { l with
      nmiReq := l.nmiReq && e != .nmi
      firqReq := l.firqReq && e != .firq
      irqReq := l.irqReq && e != .irq } := by
  rcases h with rfl | rfl | rfl <;> simp [Event.clearLatch]

/-- Every request masks IRQ, and all but IRQ mask FIRQ (R440). -/
theorem Event.Hardware.mask_eq (h : e.Hardware) (cc : CC) :
    e.mask cc = { cc with i := true, f := cc.f || e != .irq } := by
  rcases h with rfl | rfl | rfl <;> simp [Event.mask]

end

theorem State.wakeFromWait_plainFrom {e : Event} {s : State} (h : PlainFrom s e.vector 2) :
    s.wakeFromWait e = { s with
      cpuState := .running
      lines := e.clearLatch s.lines
      regs := { s.regs with pc := wordAt s e.vector, cc := e.mask s.regs.cc } } := by
  have hack : PlainFrom (s.acknowledge e) e.vector 2 := h
  rw [State.wakeFromWait, State.vectorTo_plainFrom hack]
  rfl

/-- Settles O46: the action of each waiting state. -/
theorem waitingStates : Obligations.WaitingStates := by
  intro s hrun
  refine ⟨fun hcpu hnone => ?_, fun e hcpu he hvector => ?_, fun hcpu => ?_, fun hcpu => ?_⟩
  · exact cpuStep_stay (by rw [State.cpuAction, hcpu, hnone])
  · have hwake : s.cpuAction = .wake e := by rw [State.cpuAction, hcpu, he]
    have hhard := State.acceptable_hardware he
    rw [cpuStep_wake hrun hwake, State.wakeFromWait_plainFrom hvector, hhard.clearLatch_eq, hhard.mask_eq]
  · have hany : s.cpuAction = if s.lines.any then .unsync else .stay := by rw [State.cpuAction, hcpu]
    rw [← Lines.any]
    split_ifs at hany ⊢
    · exact cpuStep_unsync hrun hany
    · exact cpuStep_stay hany
  · refine cpuStep_stay ?_
    rcases hcpu with hcpu | hcpu <;> rw [State.cpuAction, hcpu]

/-! ### An interrupt and RTI (R440, R447) -/

/-- What holds of the `n` cells below `b` holds of the `m` topmost of them. -/
theorem forall_cells_below {p : Word → Prop} {b : Word} {m n : Nat} (hmn : m ≤ n)
    (h : ∀ k < n, p (b - BitVec.ofNat 16 n + BitVec.ofNat 16 k)) :
    ∀ k < m, p (b - BitVec.ofNat 16 m + BitVec.ofNat 16 k) := by
  intro k hk
  have hcell : b - BitVec.ofNat 16 n + BitVec.ofNat 16 (n - m + k) = b - BitVec.ofNat 16 m + BitVec.ofNat 16 k := by
    bv_omega
  exact hcell ▸ h (n - m + k) (by omega)

/-- A byte on top of a frame is taken. -/
theorem take8_cons (f : Byte → Regs → Regs) (r : Regs) (b : Byte) (rest : List Byte) :
    take8 true f (r, b :: rest) = (f b r, rest) := rfl

theorem take8_false (f : Byte → Regs → Regs) (v : Regs × List Byte) : take8 false f v = v := rfl

/-- A word on top of a frame is taken. -/
theorem take16_cons (f : Word → Regs → Regs) (r : Regs) (w : Word) (rest : List Byte) :
    take16 true f (r, hiByte w :: loByte w :: rest) = (f w r, rest) := by
  have hword : BitVec.ofNat 16 (256 * (hiByte w).toNat + (loByte w).toNat) = w := by
    rw [← joinBytes_eq_ofNat, joinBytes_hiByte_loByte]
  exact congrArg (fun v => (f v r, rest)) hword

theorem take16_false (f : Word → Regs → Regs) (v : Regs × List Byte) : take16 false f v = v := rfl

/-- A pull of the entire state from the frame of `r` gives every register of `r` but S. -/
theorem pulled_entireFrame (r q : Regs) : pulled 0xFF#8 putU (entireFrame r) q = { r with s := q.s } := by
  simp [pulled, bit, entireFrame_eq, wordBytes, take8_cons, take16_cons, CC.ofByte_toByte, putU]

/-- A pull of CC and PC from the short frame of `r`. -/
theorem pulled_shortFrame (r q : Regs) : pulled 0x81#8 putU (shortFrame r) q = { q with cc := r.cc, pc := r.pc } := by
  simp [pulled, bit, shortFrame, wordBytes, take8_cons, take8_false, take16_cons, take16_false, CC.ofByte_toByte]

section
variable (e : Event) (r : Regs)

/-- The registers that an event pushes, as the list of a pull (R142, R440). -/
def Event.list : Byte := if e.entire then 0xFF#8 else 0x81#8

/-- CC lies on top of a frame. -/
theorem Event.frame_eq_cons : ∃ rest, e.frame r = r.cc.toByte :: rest := by
  unfold Event.frame
  split <;> exact ⟨_, rfl⟩

theorem Event.length_frame : (e.frame r).length = listSize e.list := by
  unfold Event.frame Event.list
  split <;> rfl

theorem Event.length_frame_le : (e.frame r).length ≤ 12 := by
  rw [e.length_frame r, Event.list]
  split <;> decide

/-- A pull of an event's list from its frame of `r` makes `r` of registers that differ from it in S, CC and PC. -/
theorem Event.pulled_frame {q : Regs} (hq : q = { r with s := q.s, cc := q.cc, pc := q.pc }) :
    pulled e.list putU (e.frame r) q = { r with s := q.s } := by
  unfold Event.frame Event.list
  split
  · exact pulled_entireFrame r q
  · rw [pulled_shortFrame]
    conv_lhs => rw [hq]

end

/-- RTI at the frame of `r` that an event pushed, when all registers but S, CC and PC have kept their values (R447). -/
theorem State.returnFromInterrupt_frame {e : Event} {r : Regs} {t : State} (he : r.cc.e = e.entire)
    (hregs : t.regs = { r with s := t.regs.s, cc := t.regs.cc, pc := t.regs.pc })
    (hbytes : bytesFrom t t.regs.s (e.frame r).length = e.frame r) (hplain : PlainFrom t t.regs.s (e.frame r).length) :
    t.returnFromInterrupt = { t with regs := { r with s := t.regs.s + BitVec.ofNat 16 (e.frame r).length } } := by
  obtain ⟨rest, hframe⟩ := e.frame_eq_cons r
  have hsize : listSize e.list = rest.length + 1 := by rw [← e.length_frame r, hframe, List.length_cons]
  have hpulled := e.pulled_frame r hregs
  rw [hframe] at hbytes hplain hpulled ⊢
  have htop : t.peek t.regs.s = r.cc.toByte := (List.cons.inj hbytes).1
  have hentire : bit r.cc.toByte 7 = e.entire := (congrArg CC.e (CC.ofByte_toByte r.cc)).trans he
  have hlist : (if bit (t.peek t.regs.s) 7 then 0xFF#8 else 0x81#8) = e.list := by rw [htop, hentire, Event.list]
  rw [List.length_cons] at hbytes hplain ⊢
  rw [State.returnFromInterrupt_plain hlist hsize hplain, hbytes, hpulled]

/-- RTI after an entry on a stack in Ram gives back the registers `r` of the frame, and has changed no cell but the twelve
below S (R440, R447). -/
theorem State.returnFromInterrupt_of_entered {e : Event} {r : Regs} {vector : Word} {cc : CC} {s t : State}
    (he : r.cc.e = e.entire) (hr : r = { s.regs with cc := r.cc }) (h : Entered vector cc (e.frame r) s t)
    (htags : t.tags = s.tags) (hram : RamFrom s (s.regs.s - 12#16) 12) :
    t.returnFromInterrupt.regs = r ∧
      ∀ a, Outside (s.regs.s - 12#16) 12 a → t.returnFromInterrupt.peek a = s.peek a := by
  obtain ⟨hregs, hother, hentered⟩ := h
  have hcells : RamFrom s (s.regs.s - BitVec.ofNat 16 (e.frame r).length) (e.frame r).length :=
    forall_cells_below (p := fun c => s.tagOf c = .ram) (e.length_frame_le r) hram
  obtain ⟨⟨hbytes, -⟩, -⟩ := hentered hcells
  have hbase : t.regs.s = s.regs.s - BitVec.ofNat 16 (e.frame r).length := congrArg Regs.s hregs
  have hkept : t.regs = { r with s := t.regs.s, cc := t.regs.cc, pc := t.regs.pc } := by
    rw [hr, hregs]
  have hplain : PlainFrom t t.regs.s (e.frame r).length := fun k hk => .inl (by
    rw [hbase, State.tagOf, htags]
    exact hcells k hk)
  rw [← hbase] at hbytes
  constructor
  · have hs : r.s = s.regs.s := by rw [hr]
    rw [State.returnFromInterrupt_frame he hkept hbytes hplain, hbase, BitVec.sub_add_cancel, ← hs]
  · intro a ha
    have hmem : t.returnFromInterrupt.mem = t.mem := congrArg Contents.mem t.returnFromInterrupt_contents
    rw [State.peek_congr hmem]
    exact hother a (forall_cells_below (p := (a ≠ ·)) (e.length_frame_le r) ha)

/-- Settles O45: the step is the entry of the request, and RTI at the handler pulls the frame that it has pushed. -/
theorem interruptThenReturn : Obligations.InterruptThenReturn := by
  intro s e hrun hcpu he hram _
  obtain ⟨-, -, htags, -⟩ := (s.acknowledge e).takeException_kept e
  exact ⟨_, _, cpuStep_of_acceptable hrun hcpu he, exec_rti _,
    State.returnFromInterrupt_of_entered (s := s.acknowledge e) rfl rfl (s.enterInterrupt_entered e) htags hram⟩

end Sys2Proof.Machine

/-! ## The PIAs (spec/61_pia.md R481 to R499)

What an access tells the host or the CPU leaves the registers of the PIA as the access has set them; the flags are bits 7
and 6 of a control register, and the rest of a register access is an equation of bytes. -/

namespace Sys2Proof.Machine
open Sys2Proof.Reference

/-! ### Control registers (R481, R482, R487) -/

@[simp] theorem bit_and (a b : Byte) (k : Nat) : bit (a &&& b) k = (bit a k && bit b k) := BitVec.getLsbD_and

@[simp] theorem bit_or (a b : Byte) (k : Nat) : bit (a ||| b) k = (bit a k || bit b k) := BitVec.getLsbD_or

theorem clearFlags_eq_mod (cr : Byte) : cr &&& 0x3F#8 = BitVec.ofNat 8 (cr.toNat % 64) := by
  apply BitVec.eq_of_toNat_eq
  rw [BitVec.toNat_ofNat, Nat.mod_eq_of_lt (by omega)]
  exact Nat.and_two_pow_sub_one_eq_mod cr.toNat 6

/-- The written control register is the two flags of the old one, joined to bits 5..0 of the written byte (R482). -/
theorem writeCr_eq_append (old v : Byte) : writeCr old v = old.extractLsb' 6 2 ++ v.extractLsb' 0 6 := by
  have flags : ∀ cr : Byte, cr &&& 0xC0#8 = cr.extractLsb' 6 2 ++ 0#6 := by decide
  have rest : ∀ cr : Byte, cr &&& 0x3F#8 = 0#2 ++ cr.extractLsb' 0 6 := by decide
  rw [writeCr, flags, rest]
  exact BitVec.or_append.trans (by rw [BitVec.or_zero, BitVec.zero_or])

theorem writeCr_eq_ofNat (old v : Byte) :
    writeCr old v = BitVec.ofNat 8 (64 * (old.toNat / 64) + v.toNat % 64) := by
  apply BitVec.eq_of_toNat_eq
  rw [writeCr_eq_append, BitVec.toNat_append, ← Nat.shiftLeft_add_eq_or_of_lt (BitVec.isLt _), Nat.shiftLeft_eq,
    BitVec.extractLsb'_toNat, BitVec.extractLsb'_toNat, BitVec.toNat_ofNat, Nat.shiftRight_eq_div_pow, Nat.shiftRight_zero]
  omega

/-! ### What goes on after an access keeps the registers (R488, R491, R497, R500) -/

theorem State.pia_congr {s t : State} (h : t.dev = s.dev) (id : PiaId) : t.pia id = s.pia id := by
  cases id <;> simp only [State.pia, h]

@[simp] theorem State.cx2Level_dev (cr : Byte) (s : State) : (s.cx2Level cr).2.dev = s.dev := by
  unfold State.cx2Level
  split <;> rfl

@[simp] theorem State.reportMux_dev (s : State) : s.reportMux.dev = s.dev := by simp [State.reportMux]

@[simp] theorem State.reportMotor_dev (s : State) : s.reportMotor.dev = s.dev := by simp [State.reportMotor]

@[simp] theorem State.piaNotify_pia (id : PiaId) (before en : Bool) (s : State) (i : PiaId) :
    (s.piaNotify id before en).pia i = s.pia i := State.pia_congr (s.piaNotify_dev id before en) i

@[simp] theorem State.afterCra_pia (id : PiaId) (s : State) : (s.afterCra id).pia id = s.pia id := by
  cases id
  · exact State.pia_congr s.reportMux_dev _
  · exact State.pia_congr s.reportMotor_dev _

@[simp] theorem State.afterCrb_pia (id : PiaId) (s : State) : (s.afterCrb id).pia id = s.pia id := by
  cases id
  · exact State.pia_congr s.reportMux_dev _
  · rfl

@[simp] theorem State.afterOra_pia (id : PiaId) (s : State) : (s.afterOra id).pia id = s.pia id := by cases id <;> rfl

@[simp] theorem State.afterOrb_pia (id : PiaId) (v : Byte) (s : State) : (s.afterOrb id v).pia id = s.pia id := by
  cases id <;> rfl

/-! ### Writes, offset by offset (R481) -/

theorem State.writePia_dataA (id : PiaId) (v : Byte) (s : State) :
    (s.writePia id 0 v).pia id =
      if bit (s.pia id).cra 2 then { s.pia id with ora := v } else { s.pia id with ddra := v } :=
  (State.piaNotify_pia id _ _ _ id).trans ((apply_ite (State.pia id) _ _ _).trans
    (by rw [State.afterOra_pia, State.setPia_pia, State.setPia_pia]))

theorem State.writePia_controlA (id : PiaId) (v : Byte) (s : State) :
    (s.writePia id 1 v).pia id = { s.pia id with cra := writeCr (s.pia id).cra v } :=
  (State.piaNotify_pia id _ _ _ id).trans ((State.afterCra_pia id _).trans (State.setPia_pia id _ _))

theorem State.writePia_dataB (id : PiaId) (v : Byte) (s : State) :
    (s.writePia id 2 v).pia id =
      if bit (s.pia id).crb 2 then { s.pia id with orb := v } else { s.pia id with ddrb := v } :=
  (State.piaNotify_pia id _ _ _ id).trans ((apply_ite (State.pia id) _ _ _).trans
    (by rw [State.afterOrb_pia, State.setPia_pia, State.setPia_pia]))

theorem State.writePia_controlB (id : PiaId) (v : Byte) (s : State) :
    (s.writePia id 3 v).pia id = { s.pia id with crb := writeCr (s.pia id).crb v } :=
  (State.piaNotify_pia id _ _ _ id).trans ((State.afterCrb_pia id _).trans (State.setPia_pia id _ _))

/-! ### Reads, offset by offset (R481, R487, R492) -/

section
variable {id : PiaId} {s : State}

theorem State.readPia_ddra (h : bit (s.pia id).cra 2 = false) : s.readPia id 0 = ((s.pia id).ddra, s) :=
  if_neg (Bool.eq_false_iff.mp h)

theorem State.readPia_ddrb (h : bit (s.pia id).crb 2 = false) : s.readPia id 2 = ((s.pia id).ddrb, s) :=
  if_neg (Bool.eq_false_iff.mp h)

theorem State.readPia_dataA (h : bit (s.pia id).cra 2 = true) :
    s.readPia id 0 = (portValue (s.pia id).ora (s.pia id).ddra (s.pinsA id).1,
      ((s.pinsA id).2.setPia id { s.pia id with cra := (s.pia id).cra &&& 0x3F#8 }).piaNotify id
        (s.pia id).irqOut false) := if_pos h

theorem State.readPia_dataB (h : bit (s.pia id).crb 2 = true) :
    s.readPia id 2 = (portValue (s.pia id).orb (s.pia id).ddrb s.pinsB.1,
      (s.pinsB.2.setPia id { s.pia id with crb := (s.pia id).crb &&& 0x3F#8 }).piaNotify id
        (s.pia id).irqOut false) := if_pos h

end

/-- A line of a port reads OR where it is an output and its pin where it is an input (R492). -/
theorem bit_portValue (or ddr pins : Byte) {k : Nat} (hk : k < 8) :
    bit (portValue or ddr pins) k = if bit ddr k then bit or k else bit pins k := by
  have hnot : bit (~~~ddr) k = !bit ddr k := by
    rw [bit, BitVec.getLsbD_not, decide_eq_true hk, Bool.true_and, bit]
  rw [portValue, bit_or, bit_and, bit_and, hnot]
  cases bit ddr k <;> simp

/-- Settles O47: the accesses offset by offset, with the control bytes as numbers. -/
theorem piaRegisters : Obligations.PiaRegisters := by
  intro id s v p
  refine ⟨s.writePia_dataA id v, ?_, s.writePia_dataB id v, ?_, rfl, rfl, State.readPia_ddra, State.readPia_ddrb,
    fun h => ⟨?_, fun k hk => ?_⟩, fun h => ⟨?_, fun k hk => ?_⟩⟩
  · rw [← writeCr_eq_ofNat]
    exact s.writePia_controlA id v
  · rw [← writeCr_eq_ofNat]
    exact s.writePia_controlB id v
  · rw [State.readPia_dataA h, State.piaNotify_pia, State.setPia_pia, clearFlags_eq_mod]
  · rw [State.readPia_dataA h]
    exact bit_portValue _ _ _ hk
  · rw [State.readPia_dataB h, State.piaNotify_pia, State.setPia_pia, clearFlags_eq_mod]
  · rw [State.readPia_dataB h]
    exact bit_portValue _ _ _ hk

/-! ### CB1 events (R483, R484, R488 to R490, R498, R499) -/

theorem bit_eq_false_of_and_eq_zero {v m : Byte} {k : Nat} (h : v &&& m = 0) (hm : bit m k = true) :
    bit v k = false := by
  have hk : bit (v &&& m) k = false := by rw [h]; exact BitVec.getLsbD_zero
  rwa [bit_and, hm, Bool.and_true] at hk

/-- With its CX2 flag at 0, a side drives its flag CX1, where bit 0 enables it. -/
theorem crIrq_of_cx2_clear {cr : Byte} (h : bit cr 6 = false) : crIrq cr = (bit cr 7 && bit cr 0) := by
  simp [crIrq, h]

/-- A CB1 event on a PIA that has no other event: the output is then the bit that enables CB1. -/
theorem Pia.irqOut_setCb1 {p : Pia} (h : p.Ok) : ({ p with crb := p.crb ||| 0x80#8 } : Pia).irqOut = bit p.crb 0 := by
  obtain ⟨hcra, hcrb⟩ := h
  have ca1 : bit p.cra 7 = false := bit_eq_false_of_and_eq_zero hcra rfl
  have ca2 : bit p.cra 6 = false := bit_eq_false_of_and_eq_zero hcra rfl
  have cb2 : bit p.crb 6 = false := bit_eq_false_of_and_eq_zero hcrb rfl
  have hflag : bit (p.crb ||| 0x80#8) 6 = false := by rw [bit_or, cb2]; rfl
  rw [Pia.irqOut, crIrq_of_cx2_clear ca2, crIrq_of_cx2_clear hflag, ca1, bit_or, bit_or]
  have set7 : bit 0x80#8 7 = true := rfl
  have set0 : bit 0x80#8 0 = false := rfl
  simp [set7, set0]

/-- A CB1 event, enabled or not (R488, R489): an enabled one sets the latch whatever the output was. -/
theorem State.cb1Event_eq {id : PiaId} {s : State} (h : (s.pia id).Ok) :
    s.cb1Event id =
      let t := s.setPia id { s.pia id with crb := (s.pia id).crb ||| 0x80#8 }
      if bit (s.pia id).crb 0 then t.requestLine id else t := by
  rw [State.cb1Event, State.piaNotify, State.setPia_pia, Pia.irqOut_setCb1 h]
  cases bit (s.pia id).crb 0 <;> simp

theorem State.requestIrq_if (b : Bool) (s : State) :
    (if b then s.requestIrq else s) = { s with lines := { s.lines with irqReq := s.lines.irqReq || b } } := by
  cases b <;> simp [State.requestIrq]

theorem State.requestFirq_if (b : Bool) (s : State) :
    (if b then s.requestFirq else s) = { s with lines := { s.lines with firqReq := s.lines.firqReq || b } } := by
  cases b <;> simp [State.requestFirq]

/-- Settles O48: the line of PIA0 is IRQ and that of PIA1 is FIRQ. -/
theorem piaEvents : Obligations.PiaEvents := fun _ =>
  ⟨fun h => (State.cb1Event_eq (id := .pia0) h).trans (State.requestIrq_if _ _),
    fun h => (State.cb1Event_eq (id := .pia1) h).trans (State.requestFirq_if _ _)⟩

/-! ### The keyboard (R492, R493) -/

/-- A row bit of the strobed columns is 1 when one of these columns has it; the columns are numbered from `c`. -/
theorem strobedRows_getLsbD (ddrb orb : Byte) (r c : Nat) (cols : List (BitVec 7)) :
    (strobedRows ddrb orb c cols).getLsbD r = true ↔
      ∃ col ∈ cols.zipIdx c, bit ddrb col.2 = true ∧ bit orb col.2 = false ∧ col.1.getLsbD r = true := by
  induction cols generalizing c with
  | nil => simp [strobedRows]
  | cons col rest ih =>
    rw [strobedRows, BitVec.getLsbD_or, Bool.or_eq_true, ih, List.zipIdx_cons, List.exists_mem_cons_iff]
    refine or_congr_left ?_
    cases bit ddrb c <;> cases bit orb c <;> simp

theorem keyboardRows_getLsbD (p : Pia) (kbd : KeyMatrix) {r : Nat} (hr : r < 7) :
    (keyboardRows p kbd).getLsbD r = false ↔
      ∃ c : Fin 8, bit p.ddrb c = true ∧ bit p.orb c = false ∧ (kbd[c]).getLsbD r = true := by
  rw [keyboardRows, BitVec.getLsbD_not, decide_eq_true hr, Bool.true_and, Bool.not_eq_false', strobedRows_getLsbD,
    List.exists_mem_zipIdx, Fin.exists_iff]
  simp

/-- Rows 1 to 6 are the keyboard's alone: the joystick button joins row 0 and the comparator is line 7 (R493). -/
theorem State.bit_pinsA_keyboard (s : State) {r : Nat} (h1 : 1 ≤ r) (h6 : r ≤ 6) :
    bit (s.pinsA .pia0).1 r = (keyboardRows s.dev.pia0 s.dev.kbd).getLsbD r := by
  have hmask : ∀ k : Fin 8, 1 ≤ k.val → k.val ≤ 6 → bit 0x7E#8 k = true := by decide
  have hbutton : bit 0x7E#8 r = true := hmask ⟨r, by omega⟩ h1 h6
  have hcomparator (b : Bool) : bit (flagBit b 7) r = false := by
    rw [bit_flagBit b 7 r (by omega) (by omega), decide_eq_false (by omega), Bool.and_false]
  have hrow : bit ((keyboardRows s.dev.pia0 s.dev.kbd).setWidth 8) r = (keyboardRows s.dev.pia0 s.dev.kbd).getLsbD r := by
    rw [bit, BitVec.getLsbD_setWidth, decide_eq_true (by omega), Bool.true_and]
  simp [State.pinsA, hbutton, hcomparator, hrow]

/-- Settles O49: an input line reads its pin, and the pins of the rows 1 to 6 are the keyboard's. -/
theorem keyboardRowsRead : Obligations.KeyboardRows := by
  intro s r h1 h6 hselect hinput
  have hpin : bit (s.readPia .pia0 0).1 r = bit (s.pinsA .pia0).1 r := by
    rw [State.readPia_dataA (id := .pia0) hselect]
    exact (bit_portValue _ _ _ (by omega)).trans (if_neg (Bool.eq_false_iff.mp hinput))
  rw [hpin, s.bit_pinsA_keyboard h1 h6]
  exact keyboardRows_getLsbD _ _ (by omega)

end Sys2Proof.Machine

/-! ## The SAM and the VDG (spec/62_sam_vdg.md R531 to R550)

A write to the SAM's window names a toggle and its value by the address alone. A pixel takes its colour from one byte of
the video window, and a render is one change of the frame buffer. -/

namespace Sys2Proof.Machine

/-! ### The toggles (R531, R532) -/

/-- The window offset of an address holds the number of a toggle and the value to give it (R531). -/
theorem toNat_samOffset {k : Nat} (hk : k < 16) (b : Bool) :
    ((BitVec.ofNat 16 (0xFFC0 + 2 * k + b.toNat)).extractLsb' 0 5).toNat = 2 * k + b.toNat := by
  have hb : b.toNat ≤ 1 := b.toNat_le
  rw [BitVec.extractLsb'_toNat, BitVec.toNat_ofNat, Nat.shiftRight_zero]
  omega

/-- A write sets one toggle and keeps the others. -/
theorem samToggle_getLsbD (bits : BitVec 16) {k : Nat} (hk : k < 16) (b : Bool) {j : Nat} (hj : j < 16) :
    (samToggle bits (2 * k + b.toNat)).getLsbD j = if j = k then b else bits.getLsbD j := by
  have hmask : (1#16 <<< k).getLsbD j = decide (k = j) := by
    rw [← BitVec.twoPow_eq, BitVec.getLsbD_twoPow, decide_eq_true hk, Bool.true_and]
  have hb : b.toNat ≤ 1 := b.toNat_le
  have hdiv : (2 * k + b.toNat) / 2 = k := by omega
  have hmod : (2 * k + b.toNat) % 2 = b.toNat := by omega
  rw [samToggle, hdiv, hmod]
  cases b with
  | false =>
    rw [if_neg (by decide), BitVec.getLsbD_and, BitVec.getLsbD_not, hmask]
    rcases eq_or_ne j k with rfl | h
    · simp
    · simp [hj, h, h.symm]
  | true =>
    rw [Bool.toNat_true, if_pos rfl, BitVec.getLsbD_or, hmask]
    rcases eq_or_ne j k with rfl | h
    · simp
    · simp [h, h.symm]

section
variable {a : Word} {s : State}

theorem State.writeByte_sam (v : Byte) (h : s.tagOf a = .io (some .sam)) :
    s.writeByte a v = { s with dev := { s.dev with sam := samToggle s.dev.sam (a.extractLsb' 0 5).toNat } } := by
  rw [State.writeByte, h]
  rfl

theorem State.readByte_sam (h : s.tagOf a = .io (some .sam)) :
    s.readByte a = (Config.samReadByte s.host.draws, s.draw.2) := by
  rw [State.readByte, h]
  rfl

end

/-- Settles O50: the address alone says which toggle a write sets, and to what; a read takes a draw and no more. -/
theorem samToggles : Obligations.SamToggles := by
  intro s k b v hk a ha
  have hread := State.readByte_sam ha
  refine ⟨⟨_, State.writeByte_sam v ha, fun j hj => ?_⟩, congrArg Prod.fst hread,
    congrArg (fun r : Byte × State => r.2.dev) hread⟩
  rw [toNat_samOffset hk]
  exact samToggle_getLsbD s.dev.sam hk b hj

/-! ### The video window (R533, R538) -/

theorem videoRamOffset_eq (sam : BitVec 16) : videoRamOffset sam = sam.toNat / 8 % 64 := by
  rw [videoRamOffset, BitVec.extractLsb'_toNat, Nat.shiftRight_eq_div_pow]

/-- No byte of the window lies above 0x95FF, whatever the toggles are. -/
theorem videoBase_add_le (sam : BitVec 16) {i : Nat} (hi : i < 6144) : videoBase sam + i ≤ 0x95FF := by
  rw [videoBase, videoRamOffset_eq]
  omega

/-- The cells of the window are no device's after the init phase (R680). -/
theorem tagAt_initTags_video {a : Nat} (ha : a ≤ 0x95FF) :
    tagAt (initTags []) a = .ram ∨ tagAt (initTags []) a = .rom := by
  rw [tagAt_initTags_nil]
  by_cases hrom : 0x8000 ≤ a
  · right
    grind
  · left
    grind

/-- An address of the window does not wrap. -/
theorem State.videoByte_eq_peek (s : State) {i : Nat} (hi : i < 6144) :
    s.videoByte i = s.peek (BitVec.ofNat 16 (videoBase s.dev.sam + i)) := by
  have hle := videoBase_add_le s.dev.sam hi
  rw [State.videoByte, State.peek, BitVec.toNat_ofNat, Nat.mod_eq_of_lt (by omega)]

/-! ### The byte of a pixel (R540, R542 to R548) -/

/-- The byte of the window that the colour of pixel (y, x) is made of; 0 in the modes without a rule. -/
def pixelIndex (mode : VdgMode) (y x : Nat) : Nat :=
  match mode with
  | .alphaInt => y / 12 * 32 + x / 8
  | .alphaExt => y / 12 * 32 + x / 8
  | .semi n => (y / 12 * n + y % 12 / (12 / n)) * 32 + x / 8
  | .graphics gm =>
    let g := graphicsRatio gm
    y / g.vrep * g.rowBytes + x / g.hrep * g.bpp / 8
  | .uncovered => 0
  | .dma => 0

/-- The byte at `pixelIndex` is all that a pixel takes from the window. -/
theorem pixel_congr (mode : VdgMode) (css : Bool) {mem mem' : Nat → Byte} {y x : Nat}
    (h : mem (pixelIndex mode y x) = mem' (pixelIndex mode y x)) : pixel mode css mem y x = pixel mode css mem' y x := by
  cases mode with
  | alphaInt | alphaExt | semi | graphics =>
    unfold pixel
    dsimp only [pixelIndex] at h ⊢
    rw [h]
  | uncovered | dma => rfl

/-- A semigraphic mode has 2, 3 or 6 sub-cells to a cell. -/
theorem currentMode_semi {vm : Nat} {pm : Byte} {n : Nat} (h : currentMode vm pm = .semi n) : n = 2 ∨ n = 3 ∨ n = 6 := by
  unfold currentMode at h
  split at h
  · cases h
  split at h
  · split at h <;> cases h
  split at h
  · split at h <;> cases h
  · exact .inl (VdgMode.semi.inj h).symm
  · exact .inr (.inl (VdgMode.semi.inj h).symm)
  · exact .inr (.inr (VdgMode.semi.inj h).symm)
  · cases h

/-- A graphics mode has at most 192 rows of at most 32 bytes (R546). -/
theorem pixelIndex_graphics_lt (gm : Nat) {y x : Nat} (hy : y < 192) (hx : x < 256) :
    pixelIndex (.graphics gm) y x < 6144 := by
  rw [pixelIndex]
  unfold graphicsRatio
  split <;> dsimp only <;> omega

/-- No mode that the mode table gives looks past the 6144 bytes of the window. -/
theorem pixelIndex_lt (vm : Nat) (pm : Byte) {y x : Nat} (hy : y < 192) (hx : x < 256) :
    pixelIndex (currentMode vm pm) y x < 6144 := by
  cases hmode : currentMode vm pm with
  | alphaInt | alphaExt | uncovered | dma =>
    dsimp only [pixelIndex]
    omega
  | semi n =>
    obtain rfl | rfl | rfl := currentMode_semi hmode
    all_goals
      dsimp only [pixelIndex]
      omega
  | graphics gm => exact pixelIndex_graphics_lt gm hy hx

/-- A pixel depends on the window's 6144 bytes only. -/
theorem pixel_congr_window (vm : Nat) (pm : Byte) (css : Bool) {mem mem' : Nat → Byte} {y x : Nat} (hy : y < 192)
    (hx : x < 256) (h : ∀ i < 6144, mem i = mem' i) :
    pixel (currentMode vm pm) css mem y x = pixel (currentMode vm pm) css mem' y x :=
  pixel_congr _ css (h _ (pixelIndex_lt vm pm hy hx))

/-! ### The render (R541, R549) -/

section
variable {s : State} {mode : VdgMode}

/-- A render in a mode with a rule is one change of the frame. -/
theorem State.render_eq (hmode : currentMode (videoMode s.dev.sam) s.dev.piaVideoMode = mode) (hrule : mode ≠ .uncovered)
    (hdma : mode ≠ .dma) : s.render = s.setFrame (.rendered (s.renderBytes mode)) := by
  unfold State.render
  rw [hmode]
  cases mode with
  | uncovered => exact absurd rfl hrule
  | dma => exact absurd rfl hdma
  | alphaInt | alphaExt | semi | graphics => rfl

theorem State.length_renderBytes : (s.renderBytes mode).length = 192 * 256 := by
  rw [State.renderBytes, List.length_map, List.length_range]

/-- Byte 256·y + x of a render is the colour of pixel (y, x). -/
theorem State.renderBytes_getElem? {y x : Nat} (hy : y < 192) (hx : x < 256) :
    (s.renderBytes mode)[256 * y + x]? =
      some (palette (pixel mode (bit s.dev.piaVideoMode 3) s.videoByte y x)) := by
  have hin : 256 * y + x < 192 * 256 := by omega
  have hrow : (256 * y + x) / 256 = y := by omega
  have hcol : (256 * y + x) % 256 = x := by omega
  rw [State.renderBytes, List.getElem?_map, List.getElem?_range hin, Option.map_some, hrow, hcol]

/-- What stood in the frame does not matter to a render: it is replaced, and nothing that a render reads is in it. -/
theorem State.render_setFrame (hmode : currentMode (videoMode s.dev.sam) s.dev.piaVideoMode = mode)
    (hrule : mode ≠ .uncovered) (hdma : mode ≠ .dma) (f : Frame) :
    (s.setFrame f).render = s.setFrame (.rendered (s.renderBytes mode)) :=
  State.render_eq (s := s.setFrame f) hmode hrule hdma

end

/-- The bytes of a render are the same in two states with the same toggles, VDG byte and window. -/
theorem State.renderBytes_congr {s t : State} (hsam : t.dev.sam = s.dev.sam)
    (hpm : t.dev.piaVideoMode = s.dev.piaVideoMode) (hwindow : ∀ i < 6144, t.videoByte i = s.videoByte i) :
    t.renderBytes (currentMode (videoMode t.dev.sam) t.dev.piaVideoMode) =
      s.renderBytes (currentMode (videoMode s.dev.sam) s.dev.piaVideoMode) := by
  rw [State.renderBytes, State.renderBytes, hsam, hpm]
  refine List.map_congr_left fun i hi => congrArg palette ?_
  have hi : i < 192 * 256 := List.mem_range.mp hi
  exact pixel_congr_window _ _ _ (Nat.div_lt_of_lt_mul (by omega)) (Nat.mod_lt i (by decide)) hwindow

/-- Settles O51: the base is at most 512 · 63, and the one byte that a pixel takes is one of the window's 6144. -/
theorem videoWindow : Obligations.VideoWindow := by
  refine ⟨fun sam => ⟨by omega, congrArg (512 * ·) (videoRamOffset_eq sam), fun i => videoBase_add_le sam⟩,
    fun a => tagAt_initTags_video, fun sam pm css mem mem' y x => pixel_congr_window _ pm css,
    fun s i => s.videoByte_eq_peek, ?_⟩
  intro s t hsam hpm hcells mode hrule hdma
  have hwindow : ∀ i < 6144, t.videoByte i = s.videoByte i := fun i hi => by
    rw [t.videoByte_eq_peek hi, s.videoByte_eq_peek hi, hsam, hcells i hi]
  have hbytes : t.renderBytes mode = s.renderBytes mode := by
    simpa only [hsam, hpm] using State.renderBytes_congr hsam hpm hwindow
  have hmode : currentMode (videoMode t.dev.sam) t.dev.piaVideoMode = mode := by rw [hsam, hpm]
  rw [State.render_eq hmode hrule hdma, State.render_eq rfl hrule hdma, hbytes]
  rfl

/-- Settles O52: the render is one change of the frame, which leaves what a second render reads. -/
theorem renderReplacesFrame : Obligations.RenderReplacesFrame := by
  intro s mode hrule hdma
  have hrender : s.render = s.setFrame (.rendered (s.renderBytes mode)) := State.render_eq rfl hrule hdma
  have hagain : s.render.render = s.render := by
    rw [hrender]
    exact State.render_setFrame rfl hrule hdma _
  exact ⟨s.renderBytes mode, hrender, hagain, State.length_renderBytes, fun y x => State.renderBytes_getElem?⟩

end Sys2Proof.Machine

/-! ## The Busy bit of the disk controller (spec/63_disk.md R603)

A transfer in progress is Busy. Each operation of the controller keeps this; whatever else a step does reaches the
controller by bus accesses, by ticks and by a reset. -/

namespace Sys2Proof.Machine

/-- A transfer in progress is Busy (R603). -/
def Disk.Busy (d : Disk) : Prop := d.diskState ≠ .idle → bit d.status 0 = true

/-- A transfer in progress on the machine's controller is Busy. -/
def State.Busy (s : State) : Prop := s.dev.disk.Busy

theorem Disk.Busy.of_idle {d : Disk} (h : d.diskState = .idle) : d.Busy := fun hd => absurd h hd

/-- The status with which a transfer begins (R594 to R597). -/
theorem Disk.Busy.of_status {d : Disk} (h : d.status = 0x01) : d.Busy := fun _ => by
  rw [h]
  rfl

/-- A change of the status that leaves bit 0. -/
theorem Disk.Busy.of_same {d e : Disk} (h : d.Busy) (hstate : e.diskState = d.diskState)
    (hbit : bit e.status 0 = bit d.status 0) : e.Busy := by
  unfold Disk.Busy
  rw [hstate, hbit]
  exact h

/-! ### The controller (R582 to R601) -/

section
variable {s : State}

theorem State.busy_congr {t : State} (h : t.dev.disk = s.dev.disk) : t.Busy ↔ s.Busy := by
  rw [State.Busy, h, State.Busy]

theorem State.withImage_busy {f : State → State} (h : s.Busy) (hf : (f s).Busy) :
    (s.withImage f).Busy := by
  unfold State.withImage
  split
  · exact h
  · exact hf

/-- A read or write of a sector begins with Busy, or fails and is over. -/
theorem State.diskReadSector_busy (s : State) : s.diskReadSector.Busy := by
  unfold State.diskReadSector
  dsimp only
  split
  · exact .of_status rfl
  · exact .of_idle rfl

theorem State.diskWriteSector_busy (s : State) : s.diskWriteSector.Busy := by
  unfold State.diskWriteSector
  dsimp only
  split
  · exact .of_status rfl
  · exact .of_idle rfl

/-- A command completes at once, begins a transfer, or leaves the one in progress (R582, R584, R599). -/
theorem State.diskCommand_busy (v : Byte) (h : s.Busy) : (s.diskCommand v).Busy := by
  have hcmd : (s.mapDisk fun d => { d with cmd := v }).Busy := h.of_same rfl rfl
  unfold State.diskCommand
  dsimp only
  split
  · exact State.withImage_busy hcmd (.of_idle rfl)
  · exact State.withImage_busy hcmd (.of_idle rfl)
  · exact State.withImage_busy hcmd (State.diskReadSector_busy _)
  · exact State.withImage_busy hcmd (State.diskWriteSector_busy _)
  · exact State.withImage_busy hcmd (.of_status rfl)
  · exact .of_idle rfl
  · exact State.withImage_busy hcmd (.of_status rfl)
  · exact hcmd

/-- DRQ is bit 1 of the status. -/
theorem bit_clearDrq (v : Byte) : bit (v &&& 0xFD#8) 0 = bit v 0 := by
  have hmask : bit 0xFD#8 0 = true := rfl
  rw [bit_and, hmask, Bool.and_true]

theorem bit_setDrq (v : Byte) : bit (v ||| 0x02#8) 0 = bit v 0 := by
  have hmask : bit 0x02#8 0 = false := rfl
  rw [bit_or, hmask, Bool.or_false]

/-- The last byte of a transfer makes the controller idle, every other one clears DRQ (R592). -/
theorem State.diskReadData_busy (h : s.Busy) : s.diskReadData.2.Busy := by
  unfold State.diskReadData
  dsimp only
  split
  · rw [State.Busy, State.mapDisk_dev]
    dsimp only
    split
    · exact .of_idle rfl
    · exact h.of_same rfl (bit_clearDrq _)
  · exact h

theorem State.finishWriteSector_busy (s : State) : s.finishWriteSector.Busy := by
  unfold State.finishWriteSector
  dsimp only
  split <;> exact .of_idle rfl

theorem State.finishWriteTrack_busy (s : State) : s.finishWriteTrack.Busy := by
  unfold State.finishWriteTrack
  dsimp only
  split <;> exact .of_idle rfl

theorem State.diskWriteData_busy (v : Byte) (h : s.Busy) : (s.diskWriteData v).Busy := by
  unfold State.diskWriteData
  dsimp only
  split
  · split
    · split
      · exact State.finishWriteSector_busy _
      · exact State.finishWriteTrack_busy _
    · exact h.of_same rfl (bit_clearDrq _)
  · exact h.of_same rfl rfl

theorem State.readDisk_busy (off : Nat) (h : s.Busy) : (s.readDisk off).2.Busy := by
  unfold State.readDisk
  split
  case h_4 => exact State.diskReadData_busy h
  all_goals exact h

theorem State.writeDisk_busy (off : Nat) (v : Byte) (h : s.Busy) : (s.writeDisk off v).Busy := by
  unfold State.writeDisk
  split
  · exact State.diskCommand_busy v h
  · exact h.of_same rfl rfl
  · exact h.of_same rfl rfl
  · exact State.diskWriteData_busy v h
  · exact h.of_same rfl rfl
  · exact h

@[simp] theorem State.cb1Event_disk (id : PiaId) (s : State) : (s.cb1Event id).dev.disk = s.dev.disk := by
  rw [State.cb1Event, State.piaNotify_dev, State.setPia_dev]
  cases id <;> rfl

/-- A tick sets DRQ during a transfer, and moves the count towards NMI else (R600, R601). -/
theorem State.diskTick_busy (h : s.Busy) : s.diskTick.Busy := by
  unfold State.diskTick
  dsimp only
  split
  · exact (State.busy_congr (State.cb1Event_disk _ _)).mpr (h.of_same rfl (bit_setDrq _))
  · split
    · split
      · split <;> exact h.of_same rfl rfl
      · exact h.of_same rfl rfl
    · exact h

/-! ### The bus -/

theorem State.readPia_disk (id : PiaId) (off : BitVec 2) (s : State) : (s.readPia id off).2.dev.disk = s.dev.disk := by
  rcases s.readPia_state id off with hread | hread | hread <;> rw [hread]
  · cases id <;> rfl
  · cases id <;> rfl

theorem State.cx2Level_disk (cr : Byte) (s : State) : (s.cx2Level cr).2.dev.disk = s.dev.disk := by
  unfold State.cx2Level
  split <;> rfl

theorem State.setPia_disk (id : PiaId) (p : Pia) (s : State) : (s.setPia id p).dev.disk = s.dev.disk := by
  cases id <;> rfl

theorem State.reportMux_disk (s : State) : s.reportMux.dev.disk = s.dev.disk := by
  rw [State.reportMux, State.call_dev, State.cx2Level_disk, State.cx2Level_disk]

theorem State.afterCra_disk (id : PiaId) (s : State) : (s.afterCra id).dev.disk = s.dev.disk := by
  cases id with
  | pia0 => exact s.reportMux_disk
  | pia1 => exact State.cx2Level_disk _ s

theorem State.afterCrb_disk (id : PiaId) (s : State) : (s.afterCrb id).dev.disk = s.dev.disk := by
  cases id with
  | pia0 => exact s.reportMux_disk
  | pia1 => rfl

theorem State.afterOra_disk (id : PiaId) (s : State) : (s.afterOra id).dev.disk = s.dev.disk := by
  cases id <;> rfl

theorem State.afterOrb_disk (id : PiaId) (v : Byte) (s : State) : (s.afterOrb id v).dev.disk = s.dev.disk := by
  cases id <;> rfl

theorem State.writePia_disk (id : PiaId) (off : BitVec 2) (v : Byte) (s : State) :
    (s.writePia id off v).dev.disk = s.dev.disk := by
  unfold State.writePia
  rw [State.piaNotify_dev]
  split
  · split
    · rw [State.afterOra_disk, State.setPia_disk]
    · rw [State.setPia_disk]
  · rw [State.afterCra_disk, State.setPia_disk]
  · split
    · rw [State.afterOrb_disk, State.setPia_disk]
    · rw [State.setPia_disk]
  · rw [State.afterCrb_disk, State.setPia_disk]

@[simp] theorem State.mapRegs_busy (f : Regs → Regs) : (s.mapRegs f).Busy ↔ s.Busy := .rfl
@[simp] theorem State.setCC_busy (cc : CC) : (s.setCC cc).Busy ↔ s.Busy := .rfl
@[simp] theorem State.setPC_busy (pc : Word) : (s.setPC pc).Busy ↔ s.Busy := .rfl
@[simp] theorem State.setE_busy (e : Bool) : (s.setE e).Busy ↔ s.Busy := .rfl

theorem State.cpuState_busy (c : CpuState) : ({ s with cpuState := c } : State).Busy ↔ s.Busy := .rfl

@[simp] theorem State.raiseIllegal_busy : s.raiseIllegal.Busy ↔ s.Busy := .rfl

@[simp] theorem State.writeReg_busy (k : Reg) (v : Word) : (s.writeReg k v).Busy ↔ s.Busy := by
  rw [State.writeReg_eq]
  rfl

@[simp] theorem State.readByte_busy (a : Word) (h : s.Busy) : (s.readByte a).2.Busy := by
  unfold State.readByte
  split
  case h_5 | h_6 =>
    exact (State.busy_congr (State.readPia_disk _ _ s)).mpr h
  case h_7 => exact State.readDisk_busy _ h
  all_goals exact h

theorem State.feedTape_disk (b : Byte) (s : State) : (s.feedTape b).dev.disk = s.dev.disk := by
  unfold State.feedTape
  dsimp only
  split <;> rfl

/-- The tape trap's read of the stacked byte may be a read of DATA. -/
theorem State.tapeWrite_busy (a : Word) (v : Byte) (h : s.Busy) : (s.tapeWrite a v).Busy := by
  unfold State.tapeWrite
  dsimp only
  split
  · exact (State.busy_congr (State.feedTape_disk _ _)).mpr (State.readByte_busy _ h)
  · exact h

@[simp] theorem State.writeByte_busy (a : Word) (v : Byte) (h : s.Busy) :
    (s.writeByte a v).Busy := by
  unfold State.writeByte
  split
  case h_4 => exact State.tapeWrite_busy a v h
  case h_5 | h_6 =>
    exact (State.busy_congr (State.writePia_disk _ _ v s)).mpr h
  case h_7 => exact State.writeDisk_busy _ v h
  all_goals exact h

@[simp] theorem State.readWord_busy (a : Word) (h : s.Busy) : (s.readWord a).2.Busy := by
  simp [State.readWord, h]

@[simp] theorem State.writeWord_busy (a v : Word) (h : s.Busy) : (s.writeWord a v).Busy := by
  simp [State.writeWord, h]

/-! ### Stacks, exceptions and operands -/


@[simp] theorem State.push8_busy (k : StackReg) (v : Byte) (h : s.Busy) :
    (s.push8 k v).Busy := by
  simp [State.push8, h]

@[simp] theorem State.push16_busy (k : StackReg) (v : Word) (h : s.Busy) :
    (s.push16 k v).Busy := by
  simp [State.push16, h]

@[simp] theorem State.pull8_busy (k : StackReg) (h : s.Busy) : (s.pull8 k).2.Busy := by
  simp [State.pull8, h]

@[simp] theorem State.pull16_busy (k : StackReg) (h : s.Busy) : (s.pull16 k).2.Busy := by
  simp [State.pull16, h]

@[simp] theorem State.pushEntire_busy (h : s.Busy) : s.pushEntire.Busy := by
  unfold State.pushEntire
  dsimp only
  exact State.push8_busy .s _ <| State.push8_busy .s _ <| State.push8_busy .s _ <| State.push8_busy .s _ <|
    State.push16_busy .s _ <| State.push16_busy .s _ <| State.push16_busy .s _ <| State.push16_busy .s _ h

@[simp] theorem State.pushShort_busy (h : s.Busy) : s.pushShort.Busy := by
  simp [State.pushShort, h]

@[simp] theorem State.vectorTo_busy (e : Event) (h : s.Busy) : (s.vectorTo e).Busy := by
  simp [State.vectorTo, h]

@[simp] theorem State.takeException_busy (e : Event) (h : s.Busy) :
    (s.takeException e).Busy := by
  unfold State.takeException
  refine State.vectorTo_busy e ?_
  split <;> simp [h]

theorem State.waitForInterrupt_busy (mask : CC) (h : s.Busy) : (s.waitForInterrupt mask).Busy := by
  have hpush : ((s.setCC (s.regs.cc.and mask)).setE true).pushEntire.Busy := State.pushEntire_busy h
  rw [State.waitForInterrupt]
  exact (State.cpuState_busy _).mpr hpush

theorem State.returnFromInterrupt_busy (h : s.Busy) : s.returnFromInterrupt.Busy := by
  have pull8 {u : State} (f : Regs → Regs) (hu : u.Busy) : ((u.pull8 .s).2.mapRegs f).Busy := State.pull8_busy .s hu
  have pull16 {u : State} (f : Regs → Regs) (hu : u.Busy) : ((u.pull16 .s).2.mapRegs f).Busy :=
    State.pull16_busy .s hu
  have hcc : ((s.pull8 .s).2.setCC (CC.ofByte (s.pull8 .s).1)).Busy := pull8 _ h
  unfold State.returnFromInterrupt
  refine pull16 _ ?_
  split
  · exact pull16 _ (pull16 _ (pull16 _ (pull8 _ (pull8 _ (pull8 _ hcc)))))
  · exact hcc

@[simp] theorem State.indexedEA_busy (ix : Indexed) (h : s.Busy) : (s.indexedEA ix).2.Busy := by
  unfold State.indexedEA
  dsimp only
  split
  · exact State.readWord_busy _ h
  · exact h

@[simp] theorem State.ea_busy (m : MemOperand) (h : s.Busy) : (s.ea m).2.Busy := by
  cases m <;> simp [State.ea, h]

@[simp] theorem State.operand8_busy (o : Operand8) (h : s.Busy) : (s.operand8 o).2.Busy := by
  cases o <;> simp [State.operand8, h]

@[simp] theorem State.operand16_busy (o : Operand16) (h : s.Busy) : (s.operand16 o).2.Busy := by
  cases o <;> simp [State.operand16, h]

theorem State.when_busy {f : State → State} (hf : ∀ u : State, u.Busy → (f u).Busy) (p : Bool)
    (h : s.Busy) : (s.when p f).Busy := by
  cases p
  · exact h
  · exact hf s h

theorem State.pushList_busy (k : StackReg) (pb : Byte) (h : s.Busy) : (s.pushList k pb).Busy := by
  have push8 (v : State → Byte) (u : State) (hu : u.Busy) : (u.push8 k (v u)).Busy :=
    State.push8_busy k _ hu
  have push16 (v : State → Word) (u : State) (hu : u.Busy) : (u.push16 k (v u)).Busy :=
    State.push16_busy k _ hu
  have words := State.when_busy (push16 fun u => u.regs.x) (bit pb 4) <|
    State.when_busy (push16 fun u => u.regs.y) (bit pb 5) <|
    State.when_busy (push16 fun u => k.other u.regs) (bit pb 6) <|
    State.when_busy (push16 fun u => u.regs.pc) (bit pb 7) h
  exact State.when_busy (push8 fun u => u.regs.cc.toByte) _ <| State.when_busy (push8 fun u => u.regs.a) _ <|
    State.when_busy (push8 fun u => u.regs.b) _ <| State.when_busy (push8 fun u => u.regs.dp) _ words

theorem State.pullList_busy (k : StackReg) (pb : Byte) (h : s.Busy) : (s.pullList k pb).Busy := by
  have pull8 (r : Reg) (u : State) (hu : u.Busy) : (u.pullReg8 k r).Busy := by
    simp [State.pullReg8, hu]
  have pull16 (r : Reg) (u : State) (hu : u.Busy) : (u.pullReg16 k r).Busy := by
    simp [State.pullReg16, hu]
  have bytes := State.when_busy (pull8 .dp) (bit pb 3) <| State.when_busy (pull8 .b) (bit pb 2) <|
    State.when_busy (pull8 .a) (bit pb 1) <| State.when_busy (pull8 .cc) (bit pb 0) h
  exact State.when_busy (pull16 .pc) _ <| State.when_busy (pull16 k.otherReg) _ <|
    State.when_busy (pull16 .y) _ <| State.when_busy (pull16 .x) _ bytes

/-! ### The CPU step -/

/-- Every shape of an instruction reaches the controller by bus accesses only. -/
theorem State.Effect.busy {t : State} (heff : s.Effect t) (h : s.Busy) : t.Busy := by
  cases heff with
  | accOp f k o => simp [State.accOp, h]
  | accTest f k o => simp [State.accTest, h]
  | accUnary f k => exact h
  | rmw f m => exact State.writeByte_busy _ _ (State.readByte_busy _ (State.ea_busy m h))
  | load8 k o => simp [State.load8, h]
  | load16 k o => simp [State.load16, h]
  | store8 k m => simp [State.store8, h]
  | store16 k m => simp [State.store16, h]
  | leaZ k ix => simp [State.leaZ, h]
  | leaQuiet k ix => simp [State.leaQuiet, h]
  | dOp f o => simp [State.dOp, h]
  | cmp16 k o => simp [State.cmp16, h]
  | clearMem m => simp [State.clearMem, h]
  | testMem m => simp [State.testMem, h]
  | clearAcc k => exact h
  | testAcc k => exact h
  | pushList k pb => exact State.pushList_busy k pb h
  | pullList k pb => exact State.pullList_busy k pb h
  | branch taken off => simp [State.branch_eq, h]
  | branchSub off => simp [State.branchSub, h]
  | jump m => simp [State.jump, h]
  | jumpSub m => simp [State.jumpSub, h]
  | returnSub => simp [State.returnSub, h]
  | transfer src dst => unfold State.transfer; split <;> simp [h]
  | exchange r1 r2 => unfold State.exchange; split <;> simp [h]
  | setCC cc => exact h
  | mapRegs f => exact h
  | nop => exact h
  | sync => exact h
  | waitForInterrupt mask => exact State.waitForInterrupt_busy mask h
  | takeException e => exact State.takeException_busy e h
  | returnFromInterrupt => exact State.returnFromInterrupt_busy h

theorem State.fetchLoop_busy (fuel : Nat) (seen : List Byte) (h : s.Busy) :
    (s.fetchLoop fuel seen).2.Busy := by
  induction fuel generalizing seen s with
  | zero => exact h
  | succ n ih =>
    have hbyte : s.fetch8.2.Busy := by simp [State.fetch8, h]
    unfold State.fetchLoop
    dsimp only
    split
    case h_2 => exact ih _ hbyte
    all_goals exact hbyte

theorem executeNext_busy {t : State} (hnext : executeNext s = .next t) (h : s.Busy) : t.Busy := by
  have hfetch : s.fetch.2.Busy := State.fetchLoop_busy maxLength [] h
  unfold executeNext at hnext
  dsimp only at hnext
  split at hnext
  · next i _ =>
    obtain ⟨u, hu, heff⟩ := exec_effect i s.fetch.2
    obtain rfl : u = t := by simpa [hu] using hnext
    exact heff.busy hfetch
  · cases hnext
    exact hfetch

theorem cpuStep_busy {t : State} (hstep : cpuStep s = .next t) (h : s.Busy) : t.Busy := by
  unfold cpuStep at hstep
  split at hstep
  · cases hstep
    exact h
  · split at hstep
    · cases hstep
      exact h
    · exact executeNext_busy hstep h
    · cases hstep
      exact State.takeException_busy _ h
    · cases hstep
      exact State.vectorTo_busy _ h
    · cases hstep
      exact h

/-! ### The polls -/

/-- After a reset the controller is idle, and stays so while the vector is read (R604, R670). -/
theorem State.executiveReset_busy (kind : ResetKind) (s : State) : (s.executiveReset kind).Busy := by
  have hidle : (s.resetCore kind).Busy := by cases kind <;> exact .of_idle rfl
  exact State.readWord_busy _ hidle

theorem State.pollReset_busy (b : Bool) (now : BitVec 32) (h : s.Busy) :
    (s.pollReset b now).Busy := by
  unfold State.pollReset
  split
  · split <;> exact h
  · split
    · dsimp only
      split <;> exact State.executiveReset_busy _ _
    · exact h

theorem State.pollTick_busy (now : BitVec 32) (h : s.Busy) : (s.pollTick now).Busy := by
  unfold State.pollTick
  split
  · exact State.diskTick_busy h
  · exact h

theorem Devices.scan_disk (sc : Byte) (d : Devices) : (d.scan sc).disk = d.disk := by
  unfold Devices.scan
  split
  · rfl
  · split <;> rfl

theorem State.pollKeyboard_disk (sc : Byte) (s : State) : (s.pollKeyboard sc).dev.disk = s.dev.disk := by
  rw [← Devices.scan_disk sc s.dev]
  unfold State.pollKeyboard State.suspend
  dsimp only
  split
  · split <;> rfl
  · rfl

theorem State.pollCartridge_disk (edge : Bool) (s : State) : (s.pollCartridge edge).dev.disk = s.dev.disk := by
  unfold State.pollCartridge
  split <;> simp

theorem State.render_disk (s : State) : s.render.dev.disk = s.dev.disk := by
  unfold State.render
  split
  case h_2 => split <;> rfl
  all_goals rfl

theorem State.pollFrame_disk (now : BitVec 32) (s : State) : (s.pollFrame now).dev.disk = s.dev.disk := by
  have hrender : ((s.mapExe fun e => { e with lastRefreshUs := now }).render).dev.disk = s.dev.disk :=
    State.render_disk _
  unfold State.pollFrame
  split
  · dsimp only
    split
    · exact hrender
    · rw [State.cb1Event_disk, hrender]
  · rfl

theorem State.loaderEvent_disk (ev : LoaderEvent) (s : State) : (s.loaderEvent ev).dev.disk = s.dev.disk := by
  cases ev with
  | mountImage kind rawSides bytes => rfl
  | loadCartridge bytes => rw [State.loaderEvent, State.loadCartridge_eq]
  | loadBasic bytes => rw [State.loaderEvent, State.loadBasic_eq]
  | loadDos offset bytes => rw [State.loaderEvent, State.loadDos_eq]
  | resume => rfl

theorem State.runLoader_disk (evs : List LoaderEvent) (s : State) : (s.runLoader evs).dev.disk = s.dev.disk := by
  induction evs generalizing s with
  | nil => rfl
  | cons ev rest ih =>
    unfold State.runLoader
    split
    · rw [ih, State.loaderEvent_disk]
    · rfl

/-- Of the polls the reset button's and the tick reach the controller. -/
theorem State.poll_disk (a : HostAnswers) (s : State) :
    (s.poll a).dev.disk = ((s.pollReset a.resetButton a.nowReset).pollTick a.nowTick).dev.disk := by
  rw [State.poll, State.runLoader_disk, State.pollFrame_disk, State.pollCartridge_disk, State.pollKeyboard_disk]

theorem State.finishIteration_busy (h : s.Busy) : s.finishIteration.Busy := by
  unfold State.finishIteration
  split
  · exact h
  · split
    · exact h
    · exact (State.busy_congr (State.poll_disk _ _)).mpr (State.pollTick_busy _ (State.pollReset_busy _ _ h))

end

/-- Settles O57: the CPU step and the rest of the iteration keep a transfer Busy; at reset there is none. -/
theorem transferIsBusy : Obligations.TransferIsBusy := by
  refine ⟨Disk.Busy.of_idle (d := State.reset.dev.disk) rfl, fun s t hbusy hstep => ?_⟩
  obtain ⟨u, hcpu, rfl⟩ := step_eq_next hstep
  exact State.finishIteration_busy (cpuStep_busy hcpu hbusy)

end Sys2Proof.Machine

/-! ## The transfers of the disk controller (spec/63_disk.md R585 to R601)

Reads of DATA hand over the track buffer byte by byte; writes of DATA fill it, and its bytes reach the image with the last
of them. -/

namespace Sys2Proof.Machine
open Sys2Proof.Reference

/-! ### The drive-control latch (R585) -/

/-- A flag is the bit its layout names, complemented where it says so. -/
theorem LatchBit.value_eq_ite (b : LatchBit) (v : Byte) :
    b.value v = if b.inverted then !bit v b.index.val else bit v b.index.val := by
  rw [LatchBit.value]
  cases b.inverted <;> simp

theorem toNat_ofBool_append_ofBool (high low : Bool) :
    (BitVec.ofBool high ++ BitVec.ofBool low).toNat = 2 * high.toNat + low.toNat := by
  cases high <;> cases low <;> rfl

theorem State.writeByte_latch {s : State} (v : Byte) (h : s.tagOf 0xFF48 = .io (some .wd2797)) :
    s.writeByte 0xFF48 v = s.diskLatch v := by
  rw [State.writeByte, h]
  rfl

/-- Settles O53: the latch by its layout, and `LatchLayout.latch_dragonDos` for the default one. -/
theorem driveLatch : Obligations.DriveLatch := by
  intro s v htag t p flag
  have ht : t = s.diskLatch v := State.writeByte_latch v htag
  have hflag : ∀ b, flag b = b.value v := fun b => (b.value_eq_ite v).symm
  rw [ht, hflag, hflag, hflag, hflag, hflag]
  refine ⟨rfl, toNat_ofBool_append_ofBool _ _, rfl, rfl, rfl, fun hp => ?_⟩
  have hdisk : (s.diskLatch v).dev.disk = LatchLayout.dragonDos.latch v s.dev.disk := by
    rw [← show s.dev.latchLayout = .dragonDos from hp]
    rfl
  rw [hdisk, LatchLayout.latch_dragonDos]
  exact ⟨by simp, rfl, rfl, rfl⟩

/-! ### Bytes one after another -/

/-- What has been written is what is read. -/
theorem Memory.readList_writeList (m : Memory) (a : Nat) (bs : List Byte) :
    Memory.readList (Memory.writeList m a bs) a bs.length = bs := by
  induction bs generalizing m a with
  | nil => rfl
  | cons b rest ih =>
    have hhead : Memory.read (Memory.writeList m a (b :: rest)) a = b := by simp [Memory.read_writeList]
    rw [List.length_cons, Memory.readList, hhead, Memory.writeList, ih]

theorem Memory.readList_congr {m m' : Memory} {a n : Nat} (h : ∀ i, a ≤ i → i < a + n → m'.read i = m.read i) :
    m'.readList a n = m.readList a n := by
  induction n generalizing a with
  | zero => rfl
  | succ n ih =>
    rw [Memory.readList, Memory.readList, h a (by omega) (by omega), ih fun i hlow hhigh => h i (by omega) (by omega)]

theorem Memory.readList_succ_last (m : Memory) (a n : Nat) :
    m.readList a (n + 1) = m.readList a n ++ [m.read (a + n)] := by
  induction n generalizing a with
  | zero => rfl
  | succ n ih =>
    rw [Memory.readList, ih, Memory.readList, List.cons_append]
    simp only [Nat.add_assoc, Nat.add_comm 1]

/-- A byte written behind the others is read behind them. -/
theorem Memory.readList_write_last (m : Memory) (a n : Nat) (v : Byte) :
    (m.write (a + n) v).readList a (n + 1) = m.readList a n ++ [v] := by
  have hothers : (m.write (a + n) v).readList a n = m.readList a n :=
    Memory.readList_congr fun i _ hi => m.read_write_other v (by omega)
  rw [Memory.readList_succ_last, hothers, Memory.read_write_same]

/-! ### The commands (R588, R594, R595) -/

/-- The place of a sector, the side being a bit of the command. -/
theorem diskOffset_eq (h : VdkHeader) (t side n : Nat) :
    diskOffset h t side n = h.headerSize + (t * h.sides + side) * 4608 + (n - 1) * 256 := by
  rw [diskOffset, Nat.mul_assoc _ 18 256]

/-- The controller when the transfer of a sector to the CPU begins: its bytes are in the track buffer (R594). -/
def Disk.startRead (o : Nat) (sector : List Byte) (d : Disk) : Disk :=
  Disk.start .read o 256 { d with trackBuf := d.trackBuf.writeList 0 sector }

section
variable {s : State} {v : Byte} {o : Nat} (hkind : s.dev.image.kind ≠ .none)
  (hvalid : diskValid s.dev s.dev.disk.track.toNat (if bit v 1 then 1 else 0) s.dev.disk.sector.toNat 256 = true)
  (ho : diskOffset s.dev.vdk s.dev.disk.track.toNat (if bit v 1 then 1 else 0) s.dev.disk.sector.toNat = o)
include hkind hvalid ho

theorem State.writeDisk_readSector (hv : v.extractLsb' 4 4 = 0x8#4) :
    s.writeDisk 0 v =
      s.mapDisk fun d => Disk.startRead o (s.dev.image.bytes.readList o 256) { d with cmd := v } := by
  have hcommand : s.writeDisk 0 v = (s.mapDisk fun d => { d with cmd := v }).diskReadSector := by
    rw [State.writeDisk, State.diskCommand, hv]
    exact if_neg hkind
  rw [hcommand, ← ho]
  exact if_pos hvalid

theorem State.writeDisk_writeSector (hv : v.extractLsb' 4 4 = 0xA#4) :
    s.writeDisk 0 v = s.mapDisk fun d => Disk.start .write o 256 { d with cmd := v } := by
  have hcommand : s.writeDisk 0 v = (s.mapDisk fun d => { d with cmd := v }).diskWriteSector := by
    rw [State.writeDisk, State.diskCommand, hv]
    exact if_neg hkind
  rw [hcommand, ← ho]
  exact if_pos hvalid

end

/-- A valid sector lies inside the image (R589). -/
theorem diskOffset_le_of_valid {d : Devices} {t side n len : Nat} (h : diskValid d t side n len = true) :
    diskOffset d.vdk t side n + len ≤ d.image.length := by
  simp only [diskValid, Bool.and_eq_true, decide_eq_true_eq] at h
  exact h.2

/-! ### Reads of DATA (R592, R594) -/

/-- The controller after a byte of a transfer to the CPU. -/
def Disk.giveByte (d : Disk) : Disk :=
  { d with data := d.trackBuf.read d.bufIndex, bufIndex := d.bufIndex + 1, status := d.status &&& 0xFD#8 }

/-- Clearing DRQ before DRQ and Busy are cleared makes no difference. -/
theorem Disk.status_giveByte (d : Disk) : d.giveByte.status &&& 0xFC#8 = d.status &&& 0xFC#8 :=
  BitVec.and_assoc d.status 0xFD#8 0xFC#8

section
variable {s : State}

/-- A read of DATA before the last one. -/
theorem State.diskReadData_next (hread : s.dev.disk.diskState = .read)
    (hlast : s.dev.disk.bufIndex + 1 ≠ s.dev.disk.bufLen) :
    s.diskReadData = (s.dev.disk.trackBuf.read s.dev.disk.bufIndex, s.mapDisk Disk.giveByte) := by
  rw [State.diskReadData, if_pos (.inl hread)]
  dsimp only
  rw [if_neg hlast]
  rfl

/-- The last read of DATA. -/
theorem State.diskReadData_last (hread : s.dev.disk.diskState = .read)
    (hlast : s.dev.disk.bufIndex + 1 = s.dev.disk.bufLen) :
    s.diskReadData = (s.dev.disk.trackBuf.read s.dev.disk.bufIndex, s.mapDisk fun d => Disk.intrq
      { d.giveByte with diskState := .idle, status := d.giveByte.status &&& 0xFC#8 }) := by
  rw [State.diskReadData, if_pos (.inl hread)]
  dsimp only
  rw [if_pos hlast]
  rfl

/-- The reads of DATA that are left of a transfer give what is left of the buffer; after them the controller is idle with
DRQ and Busy clear and its completion armed. -/
theorem readData_rest {n : Nat} (hread : s.dev.disk.diskState = .read)
    (hrest : s.dev.disk.bufIndex + (n + 1) = s.dev.disk.bufLen) :
    ∃ d : Disk, readData (n + 1) s = (s.dev.disk.trackBuf.readList s.dev.disk.bufIndex (n + 1), s.mapDisk fun _ => d) ∧
      d.diskState = .idle ∧ d.status = s.dev.disk.status &&& 0xFC#8 ∧ d.intrqArmed = true ∧ d.idleTicks = 0 := by
  induction n generalizing s with
  | zero =>
    have hbyte : s.readDisk 3 = _ := State.diskReadData_last hread hrest
    rw [readData, readData, hbyte]
    exact ⟨_, rfl, rfl, s.dev.disk.status_giveByte, rfl, rfl⟩
  | succ n ih =>
    have hbyte : s.readDisk 3 = _ := State.diskReadData_next hread (by omega)
    obtain ⟨d, hd, hidle, hstatus, harmed, hticks⟩ :=
      ih (s := s.mapDisk Disk.giveByte) hread ((Nat.add_right_comm _ 1 (n + 1)).trans hrest)
    rw [readData, hbyte, hd]
    exact ⟨d, rfl, hidle, hstatus.trans s.dev.disk.status_giveByte, harmed, hticks⟩

end

/-- Settles O54: the command fills the buffer and the reads empty it. -/
theorem readSector : Obligations.ReadSector := by
  intro s v hv hkind d side o hvalid
  have ho : diskOffset s.dev.vdk s.dev.disk.track.toNat side s.dev.disk.sector.toNat = o := diskOffset_eq ..
  rw [State.writeDisk_readSector hkind hvalid ho hv]
  have hsector := Memory.readList_writeList s.dev.disk.trackBuf 0 (s.dev.image.bytes.readList o 256)
  rw [Memory.readList_length] at hsector
  generalize s.dev.image.bytes.readList o 256 = sector at hsector ⊢
  obtain ⟨e, hreads, hidle, hstatus, harmed, hticks⟩ :=
    readData_rest (s := s.mapDisk fun d => Disk.startRead o sector { d with cmd := v }) (n := 255) rfl rfl
  rw [hreads]
  have hclear : 0x01#8 &&& 0xFC#8 = 0x00#8 := rfl
  exact ⟨hsector, hidle, hstatus.trans hclear, harmed, hticks, rfl⟩

/-! ### Writes of DATA (R593, R595) -/

/-- Of a WRITE SECTOR at the offset `o` the bytes `bs` have arrived, and nothing of it has reached the image. -/
structure State.Writing (img : DiskImage) (o : Nat) (bs : List Byte) (s : State) : Prop where
  image : s.dev.image = img
  diskState : s.dev.disk.diskState = .write
  bufLen : s.dev.disk.bufLen = 256
  xferOffset : s.dev.disk.xferOffset = o
  bufIndex : s.dev.disk.bufIndex = bs.length
  buffer : s.dev.disk.trackBuf.readList 0 bs.length = bs

/-- The controller after a byte of a transfer to the image. -/
def Disk.takeByte (v : Byte) (d : Disk) : Disk :=
  { d with
    data := v, trackBuf := d.trackBuf.write d.bufIndex v, bufIndex := d.bufIndex + 1, status := d.status &&& 0xFD#8 }

section
variable {s : State} {img : DiskImage} {o : Nat} {bs : List Byte} (h : s.Writing img o bs)
include h

/-- The buffer with the byte after `bs`. -/
theorem State.Writing.buffer_takeByte (v : Byte) :
    (s.dev.disk.takeByte v).trackBuf.readList 0 (bs.length + 1) = bs ++ [v] := by
  have hlast := s.dev.disk.trackBuf.readList_write_last 0 bs.length v
  rw [h.buffer, Nat.zero_add] at hlast
  rw [Disk.takeByte, h.bufIndex]
  exact hlast

/-- A byte that is not the last. -/
theorem State.Writing.next (v : Byte) (hlast : bs.length + 1 < 256) :
    (s.writeDisk 3 v).Writing img o (bs ++ [v]) := by
  have hwrite : s.writeDisk 3 v = s.mapDisk (Disk.takeByte v) := by
    have hmore : ¬ s.dev.disk.bufIndex + 1 = s.dev.disk.bufLen := by rw [h.bufIndex, h.bufLen]; omega
    rw [State.writeDisk, State.diskWriteData, if_pos (.inl h.diskState)]
    exact if_neg hmore
  rw [hwrite]
  refine ⟨h.image, h.diskState, h.bufLen, h.xferOffset, ?_, ?_⟩
  · rw [List.length_append, ← h.bufIndex]
    rfl
  · rw [List.length_append]
    exact h.buffer_takeByte v

/-- The last byte. -/
theorem State.Writing.last (v : Byte) (hlast : bs.length + 1 = 256) (himage : o + 256 ≤ img.length) :
    let t := s.writeDisk 3 v
    t.dev.image = { img with bytes := img.bytes.writeList o (bs ++ [v]) } ∧ t.dev.disk.diskState = .idle ∧
      t.dev.disk.status = 0x00 ∧ t.dev.disk.intrqArmed = true ∧ t.dev.disk.idleTicks = 0 := by
  have hwrite : s.writeDisk 3 v = (s.mapDisk (Disk.takeByte v)).finishWriteSector := by
    have hfull : s.dev.disk.bufIndex + 1 = s.dev.disk.bufLen := by rw [h.bufIndex, h.bufLen, hlast]
    rw [State.writeDisk, State.diskWriteData, if_pos (.inl h.diskState)]
    exact (if_pos hfull).trans (if_pos h.diskState)
  have hinside : s.dev.disk.xferOffset + 256 ≤ s.dev.image.length := by rwa [h.xferOffset, h.image]
  have hbuffer := h.buffer_takeByte v
  rw [hlast] at hbuffer
  have hfinish : (s.mapDisk (Disk.takeByte v)).finishWriteSector =
      ((s.mapDisk (Disk.takeByte v)).mapImage fun m => m.writeList o (bs ++ [v])).mapDisk Disk.finish := by
    rw [State.finishWriteSector, ← hbuffer, ← h.xferOffset]
    exact if_pos hinside
  rw [hwrite, hfinish, ← h.image]
  exact ⟨rfl, rfl, rfl, rfl, rfl⟩

end

theorem writeData_append (bs cs : List Byte) (s : State) : writeData (bs ++ cs) s = writeData cs (writeData bs s) := by
  induction bs generalizing s with
  | nil => rfl
  | cons b rest ih => exact ih _

theorem State.Writing.writeData {s : State} {img : DiskImage} {o : Nat} (h : s.Writing img o []) (bs : List Byte)
    (hlen : bs.length < 256) : (writeData bs s).Writing img o bs := by
  induction bs using List.reverseRecOn with
  | nil => exact h
  | append_singleton init b ih =>
    rw [List.length_append, List.length_singleton] at hlen
    rw [writeData_append]
    exact (ih (by omega)).next b hlen

/-- Settles O55: `State.Writing` after every byte but the last, and then that one. -/
theorem writeSector : Obligations.WriteSector := by
  intro s v bs hv hkind d side o hvalid
  have ho : diskOffset s.dev.vdk s.dev.disk.track.toNat side s.dev.disk.sector.toNat = o := diskOffset_eq ..
  have hstart : (s.writeDisk 0 v).Writing s.dev.image o [] := by
    rw [State.writeDisk_writeSector hkind hvalid ho hv]
    exact ⟨rfl, rfl, rfl, rfl, rfl, rfl⟩
  have hinside : o + 256 ≤ s.dev.image.length := ho ▸ diskOffset_le_of_valid hvalid
  refine ⟨fun hshort => (hstart.writeData bs hshort).image, fun hfull => ?_⟩
  obtain ⟨init, b, rfl⟩ : ∃ init b, bs = init ++ [b] :=
    (List.eq_nil_or_concat' bs).resolve_left fun hnil => by simp [hnil] at hfull
  have hinit : init.length + 1 = 256 := by simpa using hfull
  obtain ⟨himage, hidle, hstatus, harmed, hticks⟩ := (hstart.writeData init (by omega)).last b hinit hinside
  have hwrites : writeData (init ++ [b]) _ = (writeData init (s.writeDisk 0 v)).writeDisk 3 b :=
    writeData_append init [b] _
  rw [hwrites]
  refine ⟨fun i => ?_, (congrArg DiskImage.length himage :), hidle, hstatus, harmed, hticks⟩
  have hbytes := congrArg (fun img : DiskImage => img.bytes.read i) himage
  exact hbytes.trans (by rw [Memory.read_writeList, hfull]; rfl)

/-! ### The tick (R600, R601) -/

section
variable {s : State}

theorem State.diskTick_transfer (h : s.dev.disk.diskState ≠ .idle) :
    s.diskTick = (s.mapDisk fun d => { d with status := d.status ||| 0x02#8 }).cb1Event .pia1 := by
  rw [State.diskTick]
  exact if_pos h

/-- The state of an idle controller counting towards the completion NMI, `n` ticks on. -/
def State.countTicks (n : Nat) (s : State) : State := s.mapDisk fun d => { d with idleTicks := d.idleTicks + n }

variable (hidle : s.dev.disk.diskState = .idle) (harmed : s.dev.disk.intrqArmed = true)
include hidle harmed

theorem State.diskTick_count (hcount : s.dev.disk.idleTicks + 1 < 250) : s.diskTick = s.countTicks 1 := by
  rw [State.diskTick]
  exact (if_neg (not_not.mpr hidle)).trans ((if_pos harmed).trans (if_neg (Nat.not_le.mpr hcount)))

theorem State.diskTick_complete (hcount : s.dev.disk.idleTicks + 1 = 250) :
    s.diskTick.lines = { s.lines with nmiReq := s.lines.nmiReq || !s.dev.disk.nmiInhibit } ∧
      s.diskTick.dev.disk.intrqArmed = false := by
  rw [State.diskTick]
  dsimp only
  rw [if_neg (not_not.mpr hidle), if_pos harmed, if_pos hcount.ge]
  cases s.dev.disk.nmiInhibit
  · exact ⟨by simp, rfl⟩
  · exact ⟨by simp, rfl⟩

theorem ticks_count {n : Nat} (hcount : s.dev.disk.idleTicks + n < 250) : ticks n s = s.countTicks n := by
  induction n generalizing s with
  | zero => rfl
  | succ n ih =>
    have hfirst : s.diskTick = s.countTicks 1 := State.diskTick_count hidle harmed (by omega)
    have hrest : ticks n (s.countTicks 1) = (s.countTicks 1).countTicks n :=
      ih hidle harmed (by rw [State.countTicks, State.mapDisk_dev]; dsimp only; omega)
    rw [ticks, hfirst, hrest]
    simp only [State.countTicks, State.mapDisk, Nat.add_assoc, Nat.add_comm 1]

end

theorem ticks_succ_last (n : Nat) (s : State) : ticks (n + 1) s = (ticks n s).diskTick := by
  induction n generalizing s with
  | zero => rfl
  | succ n ih => exact ih _

/-- Settles O56: 249 ticks count, and the one after them completes. -/
theorem diskTicks : Obligations.DiskTicks := by
  intro s
  refine ⟨State.diskTick_transfer, fun hidle harmed hzero => ?_⟩
  have hcount : ∀ n < 250, ticks n s = s.countTicks n := fun n hn => ticks_count hidle harmed (by omega)
  have hlast : (s.countTicks 249).dev.disk.idleTicks + 1 = 250 := by
    rw [State.countTicks, State.mapDisk_dev]
    dsimp only
    rw [hzero]
  have h250 : ticks 250 s = (s.countTicks 249).diskTick := by
    rw [ticks_succ_last, hcount 249 (by omega)]
  refine ⟨fun n hn => by rw [hcount n hn]; rfl, ?_⟩
  rw [h250]
  exact State.diskTick_complete hidle harmed hlast

end Sys2Proof.Machine

/-! ## The tape trap and the reset button (spec/64_tape_trap.md R633 to R641, spec/65_executive.md R656)

A stream is a concatenation of parts, each of which the trap takes from the leader to the leader with nothing lost. -/

namespace Sys2Proof.Machine
open Sys2Proof.Reference

/-! ### One byte (R633, R634) -/

theorem Tape.captureByte_mk {b : Byte} {st : TapeState} {calls len pos : Nat} {captured name : List Byte}
    (h : captured.length + 1 ≤ captureLimit) :
    Tape.captureByte b ⟨st, calls, len, pos, captured, name⟩ = ⟨st, calls, len, pos, captured ++ [b], name⟩ := if_pos h

/-- What payload bytes from number `p` on of a block add to the filename (R634). -/
def nameBytes (st : TapeState) (p : Nat) (bs : List Byte) : List Byte :=
  if st = .header then (bs.take (9 - p)).filter isAlnum else []

theorem nameBytes_cons (st : TapeState) {p : Nat} (b : Byte) (bs : List Byte) :
    nameBytes st p (b :: bs) = nameBytes st p [b] ++ nameBytes st (p + 1) bs := by
  unfold nameBytes
  split
  · rcases Nat.lt_or_ge p 9 with hp | hp
    · obtain ⟨n, hn⟩ : ∃ n, 9 - p = n + 1 := ⟨8 - p, by omega⟩
      have hn' : 9 - (p + 1) = n := by omega
      rw [hn, hn', List.take_succ_cons, List.take_succ_cons, List.take_nil, ← List.filter_append,
        List.singleton_append]
    · have hzero : 9 - p = 0 := by omega
      have hzero' : 9 - (p + 1) = 0 := by omega
      simp [hzero, hzero']
  · rfl

theorem Tape.headerByte_eq {b : Byte} {t : Tape} (hpos : 1 ≤ t.blockPos) :
    t.headerByte b = { t with filename := t.filename ++ nameBytes t.tapeState t.blockPos [b] } := by
  have hnone : t = { t with filename := t.filename ++ [] } := by rw [List.append_nil]
  unfold Tape.headerByte nameBytes
  by_cases hst : t.tapeState = .header
  · rw [if_pos hst]
    rcases Nat.lt_or_ge t.blockPos 9 with hp | hp
    · obtain ⟨n, hn⟩ : ∃ n, 9 - t.blockPos = n + 1 := ⟨8 - t.blockPos, by omega⟩
      rw [hn, List.take_succ_cons, List.take_nil]
      cases halnum : isAlnum b
      · rw [if_neg (by simp), List.filter_cons_of_neg (by simp [halnum])]
        exact hnone
      · rw [if_pos ⟨hst, hpos, by omega, rfl⟩, List.filter_cons_of_pos halnum, List.filter_nil]
    · rw [if_neg (by omega), Nat.sub_eq_zero_of_le hp]
      exact hnone
  · rw [if_neg hst, if_neg (fun h => hst h.1)]
    exact hnone

/-- In a block the trap takes length, payload and checksum. -/
theorem Tape.feed_eq_blockByte {b : Byte} {st : TapeState} {calls len pos : Nat} {captured name : List Byte}
    (hst : st = .header ∨ st = .data ∨ st = .eof) :
    Tape.feed b ⟨st, calls, len, pos, captured, name⟩ = Tape.blockByte b ⟨st, calls, len, pos, captured, name⟩ := by
  rcases hst with rfl | rfl | rfl <;> rfl

section
variable {st : TapeState} {b : Byte} {len pos : Nat} {captured name : List Byte}
  (hcap : captured.length + 1 ≤ captureLimit)
include hcap

/-- In the leader: another leader byte. -/
theorem Tape.feed_leader : Tape.feed 0x55#8 ⟨.leader, 0, len, pos, captured, name⟩ =
    (⟨.leader, 0, len, pos, captured ++ [0x55#8], name⟩, none) := by
  rw [Tape.feed, Tape.captureByte_mk hcap]
  rfl

/-- In the leader: the sync byte. -/
theorem Tape.feed_sync : Tape.feed 0x3C#8 ⟨.leader, 0, len, pos, captured, name⟩ =
    (⟨.sync, 0, len, pos, captured ++ [0x3C#8], name⟩, none) := by
  rw [Tape.feed, Tape.captureByte_mk hcap]
  rfl

/-- After sync: the type of a block. A header begins a new filename. -/
theorem Tape.feed_headerType : Tape.feed 0x00#8 ⟨.sync, 0, len, pos, captured, name⟩ =
    (⟨.header, 0, len, 0, captured ++ [0x00#8], []⟩, none) := by
  rw [Tape.feed, Tape.captureByte_mk hcap]
  rfl

theorem Tape.feed_dataType : Tape.feed 0x01#8 ⟨.sync, 0, len, pos, captured, name⟩ =
    (⟨.data, 0, len, 0, captured ++ [0x01#8], name⟩, none) := by
  rw [Tape.feed, Tape.captureByte_mk hcap]
  rfl

theorem Tape.feed_eofType : Tape.feed 0xFF#8 ⟨.sync, 0, len, pos, captured, name⟩ =
    (⟨.eof, 0, len, 0, captured ++ [0xFF#8], name⟩, none) := by
  rw [Tape.feed, Tape.captureByte_mk hcap]
  rfl

/-- In a block: the length. -/
theorem Tape.feed_length (hst : st = .header ∨ st = .data ∨ st = .eof) :
    Tape.feed b ⟨st, 0, len, 0, captured, name⟩ = (⟨st, 0, b.toNat, 1, captured ++ [b], name⟩, none) := by
  rw [Tape.feed_eq_blockByte hst, Tape.blockByte, Tape.captureByte_mk hcap]
  rfl

section
variable (hst : st = .header ∨ st = .data)
include hst

/-- In a block: a payload byte, which in a header may name the file. -/
theorem Tape.feed_payload (hpos : 1 ≤ pos) (hlen : pos ≤ len) :
    Tape.feed b ⟨st, 0, len, pos, captured, name⟩ =
      (⟨st, 0, len, pos + 1, captured ++ [b], name ++ nameBytes st pos [b]⟩, none) := by
  rw [Tape.feed_eq_blockByte (hst.imp_right .inl), Tape.blockByte, Tape.captureByte_mk hcap]
  dsimp only
  rw [if_neg (by omega), if_pos hlen, Tape.headerByte_eq hpos]

/-- In a block with payload: the checksum. -/
theorem Tape.feed_checksum (hlen : len < pos) : Tape.feed b ⟨st, 0, len, pos, captured, name⟩ =
    (⟨.leader, 0, len, 0, captured ++ [b], name⟩, none) := by
  have hnoteof : st ≠ .eof := by rcases hst with rfl | rfl <;> decide
  rw [Tape.feed_eq_blockByte (hst.imp_right .inl), Tape.blockByte, Tape.captureByte_mk hcap]
  dsimp only
  rw [if_neg (by omega), if_neg (by omega), if_neg hnoteof]

end

/-- The checksum of an EOF block of length 0: the whole capture is handed over (R635). -/
theorem Tape.feed_eofChecksum : Tape.feed b ⟨.eof, 0, 0, 1, captured, name⟩ =
    (Tape.reset, some (name, captured ++ [b])) := by
  rw [Tape.feed_eq_blockByte (.inr (.inr rfl)), Tape.blockByte, Tape.captureByte_mk hcap]
  rfl

end

/-! ### Streams -/

theorem feedAll_append (bs cs : List Byte) (t : Tape) :
    feedAll (bs ++ cs) t =
      ((feedAll cs (feedAll bs t).1).1, (feedAll bs t).2 ++ (feedAll cs (feedAll bs t).1).2) := by
  induction bs generalizing t with
  | nil => rfl
  | cons b rest ih =>
    rw [List.cons_append, feedAll, ih]
    simp [feedAll]

/-- A byte that hands over no file, and the bytes after it. -/
theorem feedAll_cons_none {b : Byte} {rest : List Byte} {t u : Tape} (h : t.feed b = (u, none)) :
    feedAll (b :: rest) t = feedAll rest u := by
  rw [feedAll, h]
  rfl

/-- The payload of a block: every byte is captured and counted, those of a header also name the file. -/
theorem feedAll_payload {st : TapeState} {len pos : Nat} {captured name : List Byte} (bs : List Byte)
    (hst : st = .header ∨ st = .data) (hpos : 1 ≤ pos) (hlen : pos + bs.length ≤ len + 1)
    (hcap : captured.length + bs.length ≤ captureLimit) :
    feedAll bs ⟨st, 0, len, pos, captured, name⟩ =
      (⟨st, 0, len, pos + bs.length, captured ++ bs, name ++ nameBytes st pos bs⟩, []) := by
  induction bs generalizing pos captured name with
  | nil => simp [feedAll, nameBytes]
  | cons b rest ih =>
    rw [List.length_cons] at hlen hcap
    have hrest : (captured ++ [b]).length + rest.length ≤ captureLimit := by
      rw [List.length_append, List.length_singleton]
      omega
    rw [feedAll_cons_none (Tape.feed_payload (by omega) hst hpos (by omega)), ih (by omega) (by omega) hrest,
      nameBytes_cons st b rest, List.length_cons]
    simp only [List.append_assoc, List.singleton_append, Nat.add_assoc, Nat.add_comm 1]

/-- A part of a stream that the trap takes from the leader to the leader: it is captured whole, no file is written, and the
filename `before` gives way to `after`. -/
def Passes (bs before after : List Byte) : Prop :=
  ∀ len pos captured, captured.length + bs.length ≤ captureLimit →
    ∃ len' pos', feedAll bs ⟨.leader, 0, len, pos, captured, before⟩ =
      (⟨.leader, 0, len', pos', captured ++ bs, after⟩, [])

theorem Passes.append {bs cs a b c : List Byte} (hb : Passes bs a b) (hc : Passes cs b c) : Passes (bs ++ cs) a c := by
  intro len pos captured hcap
  rw [List.length_append] at hcap
  obtain ⟨len₁, pos₁, h₁⟩ := hb len pos captured (by omega)
  obtain ⟨len₂, pos₂, h₂⟩ := hc len₁ pos₁ (captured ++ bs) (by rw [List.length_append]; omega)
  refine ⟨len₂, pos₂, ?_⟩
  rw [feedAll_append, h₁, h₂, List.append_assoc, List.append_nil]

theorem passes_nil (name : List Byte) : Passes [] name name :=
  fun len pos captured _ => ⟨len, pos, by rw [List.append_nil]; rfl⟩

theorem passes_leader (j : Nat) (name : List Byte) : Passes (List.replicate j 0x55#8) name name := by
  induction j with
  | zero => exact passes_nil name
  | succ j ih =>
    have hbyte : Passes [0x55#8] name name := fun len pos captured hcap =>
      ⟨len, pos, feedAll_cons_none (Tape.feed_leader hcap)⟩
    exact hbyte.append ih

/-- A block with payload, by what its type byte does after sync. -/
theorem passes_block {st : TapeState} {kind : Byte} {before begun : List Byte} (payload : List Byte) (sum : Byte)
    (hst : st = .header ∨ st = .data) (hlen : payload.length < 256)
    (hkind : ∀ {len pos : Nat} {captured : List Byte}, captured.length + 1 ≤ captureLimit →
      Tape.feed kind ⟨.sync, 0, len, pos, captured, before⟩ = (⟨st, 0, len, 0, captured ++ [kind], begun⟩, none)) :
    Passes (blockBytes kind payload sum) before (begun ++ nameBytes st 1 payload) := by
  intro len pos captured hcap
  have hsize : (blockBytes kind payload sum).length = 3 + payload.length + 1 := by simp [blockBytes]; omega
  rw [hsize] at hcap
  have hlength : (BitVec.ofNat 8 payload.length).toNat = payload.length := by
    rw [BitVec.toNat_ofNat]
    exact Nat.mod_eq_of_lt hlen
  have hhead : feedAll [0x3C#8, kind, BitVec.ofNat 8 payload.length] ⟨.leader, 0, len, pos, captured, before⟩ =
      (⟨st, 0, payload.length, 1, captured ++ [0x3C#8, kind, BitVec.ofNat 8 payload.length], begun⟩, []) := by
    rw [feedAll_cons_none (Tape.feed_sync (by omega)), feedAll_cons_none (hkind (by simp; omega)),
      feedAll_cons_none (Tape.feed_length (by simp; omega) (by tauto)), hlength, List.append_assoc, List.append_assoc]
    rfl
  refine ⟨payload.length, 0, ?_⟩
  rw [blockBytes, feedAll_append, feedAll_append, hhead,
    feedAll_payload payload hst le_rfl (by omega) (by simp; omega),
    feedAll_cons_none (Tape.feed_checksum (by simp; omega) hst (by omega)), List.append_assoc, List.append_assoc,
    List.append_assoc]
  rfl

theorem passes_header (header : List Byte) (sum : Byte) (name : List Byte) (hlen : header.length < 256) :
    Passes (blockBytes 0x00#8 header sum) name ((header.take 8).filter isAlnum) :=
  passes_block header sum (.inl rfl) hlen Tape.feed_headerType

theorem passes_data (blocks : List DataBlock) (name : List Byte) (hlen : ∀ d ∈ blocks, d.payload.length < 256) :
    Passes (dataBytes blocks) name name := by
  induction blocks with
  | nil => exact passes_nil name
  | cons d rest ih =>
    have hblock : Passes (blockBytes 0x01#8 d.payload d.checksum) name (name ++ nameBytes .data 1 d.payload) :=
      passes_block d.payload d.checksum (.inr rfl) (hlen d List.mem_cons_self) Tape.feed_dataType
    have hname : name ++ nameBytes .data 1 d.payload = name := List.append_nil name
    rw [hname] at hblock
    exact ((passes_leader d.leader name).append hblock).append (ih fun e he => hlen e (List.mem_cons_of_mem d he))

/-- The EOF block ends the stream: the trap is reset and the capture is the file. -/
theorem feedAll_eof {len pos : Nat} {captured name : List Byte} (sum : Byte)
    (hcap : captured.length + 4 ≤ captureLimit) :
    feedAll [0x3C#8, 0xFF#8, 0x00#8, sum] ⟨.leader, 0, len, pos, captured, name⟩ =
      (Tape.reset, [(name, captured ++ [0x3C#8, 0xFF#8, 0x00#8, sum])]) := by
  have hzero : (0x00#8).toNat = 0 := rfl
  rw [feedAll_cons_none (Tape.feed_sync (by omega)), feedAll_cons_none (Tape.feed_eofType (by simp; omega)),
    feedAll_cons_none (Tape.feed_length (by simp; omega) (.inr (.inr rfl))), hzero, feedAll,
    Tape.feed_eofChecksum (by simp; omega)]
  simp [feedAll]

/-- Settles O58: the first leader byte ends IDLE, the parts of the stream pass, and the EOF block writes the file. -/
theorem tapeStreamWritten : Obligations.TapeStream := by
  intro k i header hsum esum blocks hk hheader hblocks stream hlimit
  obtain ⟨k, rfl⟩ := Nat.exists_eq_add_of_le' hk
  let name := (header.take 8).filter isAlnum
  let parts := List.replicate k 0x55#8 ++ blockBytes 0x00#8 header hsum ++ dataBytes blocks ++ List.replicate i 0x55#8
  have hparts : Passes parts [] name :=
    (((passes_leader k []).append (passes_header header hsum [] hheader)).append (passes_data blocks name hblocks)).append
      (passes_leader i name)
  have hstream : stream = 0x55#8 :: (parts ++ [0x3C#8, 0xFF#8, 0x00#8, esum]) := by
    simp [stream, parts, tapeStream, List.replicate_succ]
  have hfirst : Tape.feed 0x55#8 Tape.reset = (⟨.leader, 0, 0, 0, [0x55#8], []⟩, none) := rfl
  rw [hstream, List.length_cons, List.length_append] at hlimit
  obtain ⟨len, pos, hpass⟩ := hparts 0 0 [0x55#8] (by simp at hlimit ⊢; omega)
  refine ⟨name, ?_, rfl⟩
  rw [hstream, feedAll_cons_none hfirst, feedAll_append, hpass, feedAll_eof esum (by simp at hlimit ⊢; omega)]
  rfl

/-! ## The reset button (spec/65_executive.md R656) -/

/-- Settles O60: the cases of `State.pollReset`, with the time of the press as a number. -/
theorem resetButton : Obligations.ResetButton := by
  intro s now
  refine ⟨fun hfree => ?_, fun hfree => ?_, fun t0 hpressed => ?_⟩
  · rw [State.pollReset, hfree]
    rfl
  · rw [State.pollReset, hfree]
    rfl
  · have hreleased : s.pollReset true now =
        if 1500000 ≤ (now - t0).toNat then
          ((s.mapExe fun e => { e with resetPressedAt := none }).writeByte 0x0071 0x00).executiveReset .cold
        else (s.mapExe fun e => { e with resetPressedAt := none }).executiveReset .warm := by
      rw [State.pollReset, hpressed]
      rfl
    have htime : (now - t0).toNat = (now.toNat + 2 ^ 32 - t0.toNat) % 2 ^ 32 := by
      rw [BitVec.toNat_sub]
      congr 1
      omega
    rw [htime] at hreleased
    refine ⟨?_, fun hshort => ?_, fun hlong => ?_⟩
    · rw [State.pollReset, hpressed]
      rfl
    · exact hreleased.trans (if_neg (Nat.not_le.mpr hshort))
    · exact hreleased.trans (if_pos hlong)

end Sys2Proof.Machine

/-! ## The invariant of the machine (spec/10_state.md R52 to R54, spec/65_executive.md R655 to R658)

A CPU step is made of register changes and bus accesses, so that memory and the devices keep their bounds because every bus
access keeps them. The polls keep them one by one. The executive's part holds but for a fatal event that the CPU step has
recorded, and the check after it halts the machine at that event. -/

namespace Sys2Proof.Machine

/-! ### What a CPU step is made of -/

/-- The states to which changes of registers and latches, bus accesses and changes of `cpu_state` to anything but HALTED
lead from `s`. -/
inductive State.BusRun (s : State) : State → Prop where
  | start : s.BusRun s
  | mapRegs {t : State} (h : s.BusRun t) (f : Regs → Regs) : s.BusRun (t.mapRegs f)
  | lines {t : State} (h : s.BusRun t) (l : Lines) : s.BusRun { t with lines := l }
  | cpuState {t : State} (h : s.BusRun t) {c : CpuState} (hc : c ≠ .halted) : s.BusRun { t with cpuState := c }
  | lastPc {t : State} (h : s.BusRun t) (pc : Word) : s.BusRun { t with lastPc := pc }
  | recordBytes {t : State} (h : s.BusRun t) (bs : List Byte) : s.BusRun (t.recordBytes bs)
  | readByte {t : State} (h : s.BusRun t) (a : Word) : s.BusRun (t.readByte a).2
  | writeByte {t : State} (h : s.BusRun t) (a : Word) (v : Byte) : s.BusRun (t.writeByte a v)

section
variable {s t : State}

theorem State.BusRun.setCC (h : s.BusRun t) (cc : CC) : s.BusRun (t.setCC cc) :=
  h.mapRegs fun r => { r with cc := cc }

theorem State.BusRun.setPC (h : s.BusRun t) (pc : Word) : s.BusRun (t.setPC pc) :=
  h.mapRegs fun r => { r with pc := pc }

theorem State.BusRun.setE (h : s.BusRun t) (e : Bool) : s.BusRun (t.setE e) := h.setCC _

theorem State.BusRun.readWord (h : s.BusRun t) (a : Word) : s.BusRun (t.readWord a).2 :=
  (h.readByte a).readByte _

theorem State.BusRun.writeWord (h : s.BusRun t) (a v : Word) : s.BusRun (t.writeWord a v) :=
  (h.writeByte a _).writeByte _ _

theorem State.BusRun.writeReg (h : s.BusRun t) (k : Reg) (v : Word) : s.BusRun (t.writeReg k v) := by
  rw [State.writeReg_eq]
  exact (h.mapRegs (Regs.put k v)).lines _

theorem State.BusRun.raiseIllegal (h : s.BusRun t) : s.BusRun t.raiseIllegal :=
  (h.setPC _).cpuState (c := .exception) nofun

theorem State.BusRun.push8 (h : s.BusRun t) (k : StackReg) (v : Byte) : s.BusRun (t.push8 k v) :=
  (h.mapRegs _).writeByte _ v

theorem State.BusRun.push16 (h : s.BusRun t) (k : StackReg) (v : Word) : s.BusRun (t.push16 k v) :=
  (h.push8 k _).push8 k _

theorem State.BusRun.pull8 (h : s.BusRun t) (k : StackReg) : s.BusRun (t.pull8 k).2 :=
  (h.readByte _).mapRegs _

theorem State.BusRun.pull16 (h : s.BusRun t) (k : StackReg) : s.BusRun (t.pull16 k).2 :=
  (h.pull8 k).pull8 k

theorem State.BusRun.pushEntire (h : s.BusRun t) : s.BusRun t.pushEntire := by
  have words := (((h.push16 .s t.regs.pc).push16 .s t.regs.u).push16 .s t.regs.y).push16 .s t.regs.x
  rw [State.pushEntire_eq]
  exact (((words.push8 .s _).push8 .s _).push8 .s _).push8 .s _

theorem State.BusRun.pushShort (h : s.BusRun t) : s.BusRun t.pushShort := by
  rw [State.pushShort_eq]
  exact (h.push16 .s _).push8 .s _

theorem State.BusRun.vectorTo (h : s.BusRun t) (e : Event) : s.BusRun (t.vectorTo e) :=
  ((h.setCC _).readWord _).setPC _

theorem State.BusRun.takeException (h : s.BusRun t) (e : Event) : s.BusRun (t.takeException e) := by
  have hflag : s.BusRun (t.setE e.entire) := h.setE _
  unfold State.takeException
  refine State.BusRun.vectorTo ?_ e
  split
  · exact hflag.pushEntire
  · exact hflag.pushShort

theorem State.BusRun.waitForInterrupt (h : s.BusRun t) (mask : CC) : s.BusRun (t.waitForInterrupt mask) :=
  State.BusRun.cpuState (c := .waitingInterrupt) (State.BusRun.pushEntire ((h.setCC _).setE _)) nofun

theorem State.BusRun.returnFromInterrupt (h : s.BusRun t) : s.BusRun t.returnFromInterrupt := by
  have pull8 {u : State} (f : Regs → Regs) (hu : s.BusRun u) : s.BusRun ((u.pull8 .s).2.mapRegs f) :=
    (hu.pull8 .s).mapRegs f
  have pull16 {u : State} (f : Regs → Regs) (hu : s.BusRun u) : s.BusRun ((u.pull16 .s).2.mapRegs f) :=
    (hu.pull16 .s).mapRegs f
  have hcc : s.BusRun ((t.pull8 .s).2.setCC (CC.ofByte (t.pull8 .s).1)) := (h.pull8 .s).setCC _
  unfold State.returnFromInterrupt
  refine (State.BusRun.pull16 ?_ .s).setPC _
  split
  · exact pull16 _ (pull16 _ (pull16 _ (pull8 _ (pull8 _ (pull8 _ hcc)))))
  · exact hcc

/-! ### Operands and the shapes of the instructions -/

theorem State.BusRun.indexedEA (h : s.BusRun t) (ix : Indexed) : s.BusRun (t.indexedEA ix).2 := by
  have hstep : s.BusRun { t with regs := (indexAddress ix.form t.regs).2 } := h.mapRegs fun _ => _
  unfold State.indexedEA
  dsimp only
  split
  · exact hstep.readWord _
  · exact hstep

theorem State.BusRun.ea (h : s.BusRun t) (m : MemOperand) : s.BusRun (t.ea m).2 := by
  cases m with
  | dir lo => exact h
  | idx ix => exact h.indexedEA ix
  | ext a => exact h

theorem State.BusRun.operand8 (h : s.BusRun t) (o : Operand8) : s.BusRun (t.operand8 o).2 := by
  cases o with
  | imm v => exact h
  | mem m => exact (h.ea m).readByte _

theorem State.BusRun.operand16 (h : s.BusRun t) (o : Operand16) : s.BusRun (t.operand16 o).2 := by
  cases o with
  | imm v => exact h
  | mem m => exact (h.ea m).readWord _

theorem State.BusRun.when (h : s.BusRun t) (p : Bool) {f : State → State}
    (hf : ∀ u : State, s.BusRun u → s.BusRun (f u)) : s.BusRun (t.when p f) := by
  cases p
  · exact h
  · exact hf t h

theorem State.BusRun.pushList (h : s.BusRun t) (k : StackReg) (pb : Byte) : s.BusRun (t.pushList k pb) := by
  have push8 (v : State → Byte) (u : State) (hu : s.BusRun u) : s.BusRun (u.push8 k (v u)) := hu.push8 k _
  have push16 (v : State → Word) (u : State) (hu : s.BusRun u) : s.BusRun (u.push16 k (v u)) := hu.push16 k _
  have words := (((h.when (bit pb 7) (push16 fun u => u.regs.pc)).when (bit pb 6) (push16 fun u => k.other u.regs)).when
    (bit pb 5) (push16 fun u => u.regs.y)).when (bit pb 4) (push16 fun u => u.regs.x)
  have bytes := (((words.when (bit pb 3) (push8 fun u => u.regs.dp)).when (bit pb 2) (push8 fun u => u.regs.b)).when
    (bit pb 1) (push8 fun u => u.regs.a)).when (bit pb 0) (push8 fun u => u.regs.cc.toByte)
  exact bytes

theorem State.BusRun.pullList (h : s.BusRun t) (k : StackReg) (pb : Byte) : s.BusRun (t.pullList k pb) := by
  have pull8 (r : Reg) (u : State) (hu : s.BusRun u) : s.BusRun (u.pullReg8 k r) := (hu.pull8 k).writeReg r _
  have pull16 (r : Reg) (u : State) (hu : s.BusRun u) : s.BusRun (u.pullReg16 k r) := (hu.pull16 k).writeReg r _
  have bytes := (((h.when (bit pb 0) (pull8 .cc)).when (bit pb 1) (pull8 .a)).when (bit pb 2) (pull8 .b)).when
    (bit pb 3) (pull8 .dp)
  exact (((bytes.when (bit pb 4) (pull16 .x)).when (bit pb 5) (pull16 .y)).when (bit pb 6) (pull16 k.otherReg)).when
    (bit pb 7) (pull16 .pc)

/-- Every shape of an instruction is made of register changes and bus accesses; none leaves the CPU HALTED. -/
theorem State.Effect.busRun {u : State} (heff : t.Effect u) (h : s.BusRun t) : s.BusRun u := by
  cases heff with
  | accOp f k o => unfold State.accOp; exact (h.operand8 o).mapRegs _
  | accTest f k o => exact (h.operand8 o).setCC _
  | accUnary f k => unfold State.accUnary; exact h.mapRegs _
  | rmw f m => exact (((h.ea m).readByte _).writeByte _ _).setCC _
  | load8 k o => unfold State.load8; exact (h.operand8 o).mapRegs _
  | load16 k o => exact ((h.operand16 o).writeReg k _).setCC _
  | store8 k m => exact ((h.ea m).writeByte _ _).setCC _
  | store16 k m => exact ((h.ea m).writeWord _ _).setCC _
  | leaZ k ix => exact ((h.indexedEA ix).writeReg k _).setCC _
  | leaQuiet k ix => exact (h.indexedEA ix).writeReg k _
  | dOp f o => unfold State.dOp; exact (h.operand16 o).mapRegs _
  | cmp16 k o => exact (h.operand16 o).setCC _
  | clearMem m => exact ((h.ea m).writeByte _ _).setCC _
  | testMem m => exact ((h.ea m).readByte _).setCC _
  | clearAcc k => exact h.mapRegs _
  | testAcc k => exact h.setCC _
  | pushList k pb => exact h.pushList k pb
  | pullList k pb => exact h.pullList k pb
  | branch taken off => rw [State.branch_eq]; exact h.setPC _
  | branchSub off => exact (h.push16 .s _).setPC _
  | jump m => exact (h.ea m).setPC _
  | jumpSub m => exact ((h.ea m).push16 .s _).setPC _
  | returnSub => exact (h.pull16 .s).setPC _
  | transfer src dst =>
    unfold State.transfer
    split
    · exact h.writeReg dst _
    · exact h.raiseIllegal
  | exchange r1 r2 =>
    unfold State.exchange
    split
    · exact (h.writeReg r1 _).writeReg r2 _
    · exact h.raiseIllegal
  | setCC cc => exact h.setCC cc
  | mapRegs f => exact h.mapRegs f
  | nop => exact h
  | sync => exact h.cpuState nofun
  | waitForInterrupt mask => exact h.waitForInterrupt mask
  | takeException e => exact h.takeException e
  | returnFromInterrupt => exact h.returnFromInterrupt

/-! ### The CPU step -/

theorem State.BusRun.fetchLoop (h : s.BusRun t) (fuel : Nat) (seen : List Byte) :
    s.BusRun (t.fetchLoop fuel seen).2 := by
  induction fuel generalizing seen t with
  | zero => exact h.recordBytes seen
  | succ n ih =>
    have hbyte : s.BusRun t.fetch8.2 := (h.readByte _).setPC _
    unfold State.fetchLoop
    dsimp only
    split
    case h_2 => exact ih hbyte _
    all_goals exact hbyte.recordBytes _

theorem executeNext_busRun (h : executeNext s = .next t) : s.BusRun t := by
  have hfetch : s.BusRun s.fetch.2 := (State.BusRun.start.lastPc s.regs.pc).fetchLoop maxLength []
  unfold executeNext at h
  dsimp only at h
  split at h
  · next i _ =>
    obtain ⟨u, hu, heff⟩ := exec_effect i s.fetch.2
    obtain rfl : u = t := by simpa [hu] using h
    exact heff.busRun hfetch
  · cases h
    exact hfetch.raiseIllegal

/-- A CPU step is skipped by a suspended machine, and is otherwise made of register changes and bus accesses. -/
theorem cpuStep_cases (h : cpuStep s = .next t) : t = s ∨ (s.exe.suspended = false ∧ s.BusRun t) := by
  unfold cpuStep at h
  split at h
  · cases h
    exact .inl rfl
  · next hrun =>
    have hawake : s.exe.suspended = false := by simpa using hrun
    split at h
    · cases h
      exact .inl rfl
    · exact .inr ⟨hawake, executeNext_busRun h⟩
    · cases h
      exact .inr ⟨hawake, (State.BusRun.start.lines _).takeException _⟩
    · cases h
      exact .inr ⟨hawake, State.BusRun.cpuState ((State.BusRun.start.lines _).vectorTo _) nofun⟩
    · cases h
      exact .inr ⟨hawake, State.BusRun.start.cpuState nofun⟩

end

/-! ### Bits that stay 0 -/

section
variable {a b m : Byte}

theorem and_masked (h : a &&& m = 0#8) (c : Byte) : (a &&& c) &&& m = 0#8 := by
  rw [BitVec.and_assoc, BitVec.and_comm c, ← BitVec.and_assoc, h, BitVec.zero_and]

theorem masked_and (h : b &&& m = 0#8) (c : Byte) : (c &&& b) &&& m = 0#8 := by
  rw [BitVec.and_assoc, h, BitVec.and_zero]

theorem or_masked (ha : a &&& m = 0#8) (hb : b &&& m = 0#8) : (a ||| b) &&& m = 0#8 := by
  rw [BitVec.and_comm, BitVec.and_or_distrib_left, BitVec.and_comm m a, BitVec.and_comm m b, ha, hb, BitVec.or_zero]

end

/-! ### The PIAs (spec/61_pia.md R482 to R487) -/

section
variable {p : Pia}

theorem Pia.Ok.clear_cra (h : p.Ok) : Pia.Ok { p with cra := p.cra &&& 0x3F#8 } := ⟨masked_and rfl p.cra, h.2⟩

theorem Pia.Ok.clear_crb (h : p.Ok) : Pia.Ok { p with crb := p.crb &&& 0x3F#8 } := ⟨h.1, masked_and rfl p.crb⟩

/-- A control write sets none of the flags (R482). -/
theorem writeCr_masked {old m : Byte} (hold : old &&& m = 0#8) (hflags : 0x3F#8 &&& m = 0#8) (v : Byte) :
    writeCr old v &&& m = 0#8 :=
  or_masked (and_masked hold _) (masked_and hflags v)

theorem Pia.Ok.writeCra (h : p.Ok) (v : Byte) : Pia.Ok { p with cra := writeCr p.cra v } :=
  ⟨writeCr_masked h.1 rfl v, h.2⟩

theorem Pia.Ok.writeCrb (h : p.Ok) (v : Byte) : Pia.Ok { p with crb := writeCr p.crb v } :=
  ⟨h.1, writeCr_masked h.2 rfl v⟩

/-- A CB1 event sets bit 7 of CRB (R490). -/
theorem Pia.Ok.cb1 (h : p.Ok) : Pia.Ok { p with crb := p.crb ||| 0x80#8 } := ⟨h.1, or_masked h.2 rfl⟩

end

/-! ### The disk controller and its image (spec/63_disk.md R583 to R601) -/

/-- The track buffer is canonical and at most 4608 bytes long (R52). -/
def TrackBufferOk (m : Memory) : Prop := m.wf = true ∧ m.below 4608 = true

theorem TrackBufferOk.write {m : Memory} (h : TrackBufferOk m) {i : Nat} (hi : i < 4608) (v : Byte) :
    TrackBufferOk (Memory.write m i v) :=
  ⟨Memory.wf_write i v h.1, Memory.below_write v hi h.2⟩

theorem TrackBufferOk.writeList {m : Memory} (h : TrackBufferOk m) (bs : List Byte) (hlen : bs.length ≤ 4608) :
    TrackBufferOk (Memory.writeList m 0 bs) :=
  ⟨Memory.wf_writeList 0 bs h.1, Memory.below_writeList bs (by omega) h.2⟩

theorem DiskImage.Ok.writeList {img : DiskImage} (h : img.Ok) {o : Nat} {bs : List Byte}
    (hlen : o + bs.length ≤ img.length) :
    DiskImage.Ok { img with bytes := Memory.writeList img.bytes o bs } :=
  ⟨Memory.wf_writeList o bs h.1, Memory.below_writeList bs hlen h.2⟩

theorem DiskImage.ok_ofBytes (kind : ImageKind) (rawSides : Nat) (bytes : List Byte) :
    (DiskImage.ofBytes kind rawSides bytes).Ok :=
  ⟨Memory.wf_writeList 0 bytes rfl, Memory.below_writeList bytes (Nat.zero_add _).le rfl⟩

section
variable {d e : Disk}

theorem Disk.Ok.buffer (h : d.Ok) : TrackBufferOk d.trackBuf := ⟨h.bufferWf, h.bufferLen⟩

theorem DiskState.transferLength_pos {st : DiskState} (h : st ≠ .idle) : 0 < st.transferLength := by
  cases st with
  | idle => exact absurd rfl h
  | read | write | readId | writeTrk => exact Nat.succ_pos _

theorem DiskState.transferLength_le (st : DiskState) : st.transferLength ≤ 4608 := by
  cases st <;> decide

/-- A controller that is idle. -/
theorem Disk.Ok.of_idle (hstate : d.diskState = .idle) (hstatus : d.status &&& 0xE0#8 = 0x00#8)
    (harmed : d.intrqArmed = true → d.idleTicks < 250) (hbuf : TrackBufferOk d.trackBuf) : d.Ok where
  busy h := absurd hstate h
  length h := absurd hstate h
  inside h := absurd hstate h
  status := hstatus
  armed := harmed
  bufferWf := hbuf.1
  bufferLen := hbuf.2

/-- A controller at the first byte of a transfer. -/
theorem Disk.Ok.of_start (hlength : d.bufLen = d.diskState.transferLength) (hindex : d.bufIndex = 0)
    (hstatus : d.status = 0x01#8) (harmed : d.intrqArmed = true → d.idleTicks < 250) (hbuf : TrackBufferOk d.trackBuf) :
    d.Ok where
  busy _ := by rw [hstatus]; rfl
  length _ := hlength
  inside h := by rw [hlength, hindex]; exact DiskState.transferLength_pos h
  status := by rw [hstatus]; rfl
  armed := harmed
  bufferWf := hbuf.1
  bufferLen := hbuf.2

/-- A controller in the transfer of another one that was not yet at its last byte, or at the same place. -/
theorem Disk.Ok.of_transfer (h : d.Ok) (hstate : e.diskState = d.diskState) (hlen : e.bufLen = d.bufLen)
    (hinside : e.diskState ≠ .idle → e.bufIndex < e.bufLen) (hbusy : bit e.status 0 = bit d.status 0)
    (hstatus : e.status &&& 0xE0#8 = 0x00#8) (harmed : e.intrqArmed = true → e.idleTicks < 250)
    (hbuf : TrackBufferOk e.trackBuf) : e.Ok where
  busy he := by rw [hbusy]; exact h.busy (hstate ▸ he)
  length he := by rw [hlen, hstate]; exact h.length (hstate ▸ he)
  inside := hinside
  status := hstatus
  armed := harmed
  bufferWf := hbuf.1
  bufferLen := hbuf.2

theorem Disk.Ok.latch (h : d.Ok) (p : LatchLayout) (v : Byte) : (p.latch v d).Ok := { h with }

theorem Disk.ok_fail (hbuf : TrackBufferOk d.trackBuf) : d.fail.Ok :=
  .of_idle rfl (rfl : 0x18#8 &&& 0xE0#8 = 0x00#8) (fun _ => Nat.succ_pos _) hbuf

theorem Disk.Ok.restore (h : d.Ok) : d.restore.Ok :=
  .of_idle rfl (rfl : 0x04#8 &&& 0xE0#8 = 0x00#8) (fun _ => Nat.succ_pos _) h.buffer

theorem Disk.Ok.seek (h : d.Ok) : d.seek.Ok := by
  refine .of_idle rfl ?_ (fun _ => Nat.succ_pos _) h.buffer
  unfold Disk.seek Disk.intrq
  dsimp only
  split <;> rfl

theorem Disk.Ok.forceInterrupt (h : d.Ok) : d.forceInterrupt.Ok :=
  .of_idle rfl (rfl : 0x00#8 &&& 0xE0#8 = 0x00#8) nofun h.buffer

theorem Disk.Ok.startRead (h : d.Ok) (o : Nat) {sector : List Byte} (hlen : sector.length ≤ 4608) :
    (d.startRead o sector).Ok :=
  .of_start rfl rfl rfl h.armed (h.buffer.writeList sector hlen)

theorem Disk.Ok.readAddress (h : d.Ok) : d.readAddress.Ok :=
  .of_start rfl rfl rfl h.armed (h.buffer.writeList _ (by simp))

theorem Disk.Ok.writeTrack (h : d.Ok) : d.writeTrack.Ok := .of_start rfl rfl rfl h.armed h.buffer

theorem Disk.ok_finish (hbuf : TrackBufferOk d.trackBuf) : d.finish.Ok :=
  .of_idle rfl (rfl : 0x00#8 &&& 0xE0#8 = 0x00#8) (fun _ => Nat.succ_pos _) hbuf

theorem Disk.ok_finish_filled (hbuf : TrackBufferOk d.trackBuf) {bs : List Byte} (hlen : bs.length ≤ 4608) :
    (Disk.finish { d with trackBuf := Memory.writeList d.trackBuf 0 bs }).Ok :=
  Disk.ok_finish (hbuf.writeList bs hlen)

/-- The controller after a byte of a transfer to the CPU that is not the last (R592). -/
theorem Disk.Ok.giveByte (h : d.Ok) (hstate : d.diskState ≠ .idle) (hmore : d.bufIndex + 1 ≠ d.bufLen) :
    d.giveByte.Ok := by
  have hinside : d.giveByte.bufIndex < d.giveByte.bufLen := lt_of_le_of_ne (h.inside hstate) hmore
  exact h.of_transfer rfl rfl (fun _ => hinside) (bit_clearDrq d.status) (and_masked h.status _) h.armed h.buffer

theorem Disk.Ok.setDrq (h : d.Ok) : Disk.Ok { d with status := d.status ||| 0x02#8 } :=
  h.of_transfer rfl rfl h.inside (bit_setDrq d.status) (or_masked h.status rfl) h.armed h.buffer

theorem Disk.Ok.buffer_takeByte (h : d.Ok) (hstate : d.diskState ≠ .idle) (v : Byte) :
    TrackBufferOk (d.takeByte v).trackBuf := by
  have hinside := h.inside hstate
  have hlen := (h.length hstate).le.trans d.diskState.transferLength_le
  exact h.buffer.write (by omega) v

/-- The controller after a byte of a transfer from the CPU that is not the last (R593). -/
theorem Disk.Ok.takeByte (h : d.Ok) (hstate : d.diskState ≠ .idle) (hmore : d.bufIndex + 1 ≠ d.bufLen) (v : Byte) :
    (d.takeByte v).Ok := by
  have hinside : (d.takeByte v).bufIndex < (d.takeByte v).bufLen := lt_of_le_of_ne (h.inside hstate) hmore
  exact h.of_transfer rfl rfl (fun _ => hinside) (bit_clearDrq d.status) (and_masked h.status _) h.armed
    (h.buffer_takeByte hstate v)

end

/-! ### The tape trap (spec/64_tape_trap.md R633, R634) -/

section
variable {t : Tape}

theorem Tape.Ok.captureByte (h : t.Ok) (b : Byte) : (t.captureByte b).Ok := by
  unfold Tape.captureByte
  split
  · next hroom => exact { h with capture := by simp; omega }
  · exact h

theorem Tape.Ok.headerByte (h : t.Ok) (hpos : t.blockPos ≠ 0) (b : Byte) :
    Tape.Ok { t.headerByte b with blockPos := t.blockPos + 1 } := by
  unfold Tape.headerByte
  split
  · next hb =>
    obtain ⟨hst, -, hhigh, halnum⟩ := hb
    have hlen := h.header hst
    exact { h with
      name := by simp; omega
      alnum := by simpa [halnum] using h.alnum
      header := fun _ => by simp; omega }
  · exact { h with header := fun hst => (h.header hst).trans (by simp) }

theorem Tape.Ok.flush (h : t.Ok) : t.flush.1.Ok :=
  { h with resting := nofun, capture := Nat.zero_le _, name := Nat.zero_le _, alnum := rfl, header := nofun }

theorem Tape.Ok.blockByte (h : t.Ok) (b : Byte) : (t.blockByte b).1.Ok := by
  have hcap := h.captureByte b
  unfold Tape.blockByte
  dsimp only
  split
  · exact { hcap with header := fun hst => (hcap.header hst).trans (by dsimp only; omega) }
  · next hpos =>
    split
    · exact hcap.headerByte hpos b
    · split
      · next heof =>
        exact Tape.Ok.flush { hcap with header := fun hst => absurd (heof.symm.trans hst) nofun }
      · exact { hcap with resting := nofun, header := nofun }

/-- A byte fed to the trap keeps its bounds, in every state of the machine. -/
theorem Tape.Ok.feed (h : t.Ok) (b : Byte) : (t.feed b).1.Ok := by
  have hcap := h.captureByte b
  unfold Tape.feed
  split
  case h_1 =>
    split
    · exact { hcap with resting := nofun, header := nofun }
    · exact h
  case h_2 =>
    dsimp only
    split
    · exact hcap
    · split <;> exact { hcap with resting := nofun, header := nofun }
  case h_3 =>
    dsimp only
    split
    · exact { hcap with resting := nofun, name := Nat.zero_le _, alnum := rfl, header := fun _ => Nat.zero_le _ }
    · split
      · exact { hcap with resting := nofun, header := nofun }
      · split <;> exact { hcap with resting := nofun, header := nofun }
  case h_4 | h_5 | h_6 => exact h.blockByte b
  case h_7 => exact h.flush

end

/-! ### Memory and devices -/

/-- The devices, each with its bounds. -/
structure Devices.Ok (d : Devices) : Prop where
  image : d.image.Ok
  disk : d.disk.Ok
  pia0 : d.pia0.Ok
  pia1 : d.pia1.Ok
  tape : d.tape.Ok
  frame : d.frame.Ok

/-- The part of the invariant that speaks of memory and the devices. -/
structure State.DataOk (s : State) : Prop where
  mem : s.MemoryOk
  dev : s.dev.Ok

theorem State.DataOk.of_mem_eq {s t : State} (h : s.DataOk) (hmem : t.mem = s.mem) (hdev : t.dev.Ok) : t.DataOk :=
  ⟨by rw [State.MemoryOk, hmem]; exact h.mem, hdev⟩

theorem State.DataOk.congr {s t : State} (h : s.DataOk) (hmem : t.mem = s.mem) (hdev : t.dev = s.dev) : t.DataOk :=
  h.of_mem_eq hmem (hdev ▸ h.dev)

section
variable {s : State}

/-! ### The PIAs -/

theorem Devices.Ok.pia (h : s.dev.Ok) (id : PiaId) : (s.pia id).Ok := by
  cases id with
  | pia0 => exact h.pia0
  | pia1 => exact h.pia1

theorem Devices.Ok.setPia (h : s.dev.Ok) (id : PiaId) {p : Pia} (hp : p.Ok) : (s.setPia id p).dev.Ok := by
  cases id with
  | pia0 => exact { h with pia0 := hp }
  | pia1 => exact { h with pia1 := hp }

theorem State.afterCra_dev (id : PiaId) (s : State) : (s.afterCra id).dev = s.dev := by
  cases id with
  | pia0 => exact s.reportMux_dev
  | pia1 => exact State.cx2Level_dev _ s

theorem State.afterCrb_dev (id : PiaId) (s : State) : (s.afterCrb id).dev = s.dev := by
  cases id with
  | pia0 => exact s.reportMux_dev
  | pia1 => rfl

theorem State.afterOra_dev (id : PiaId) (s : State) : (s.afterOra id).dev = s.dev := by
  cases id <;> rfl

theorem Devices.Ok.afterOrb (h : s.dev.Ok) (id : PiaId) (v : Byte) : (s.afterOrb id v).dev.Ok := by
  cases id with
  | pia0 => exact h
  | pia1 => exact { h with }

theorem Devices.Ok.readPia (h : s.dev.Ok) (id : PiaId) (off : BitVec 2) : (s.readPia id off).2.dev.Ok := by
  rcases s.readPia_state id off with hread | hread | hread <;> rw [hread]
  · exact h
  · rw [State.pinsA_state]
    exact Devices.Ok.setPia (s := s.draw.2) h id (h.pia id).clear_cra
  · exact Devices.Ok.setPia (s := s.draw.2) h id (h.pia id).clear_crb

theorem Devices.Ok.writePia (h : s.dev.Ok) (id : PiaId) (off : BitVec 2) (v : Byte) : (s.writePia id off v).dev.Ok := by
  have hp := h.pia id
  unfold State.writePia
  rw [State.piaNotify_dev]
  split
  · split
    · rw [State.afterOra_dev]
      exact h.setPia id { hp with }
    · exact h.setPia id { hp with }
  · rw [State.afterCra_dev]
    exact h.setPia id (hp.writeCra v)
  · split
    · exact Devices.Ok.afterOrb (h.setPia id (p := { s.pia id with orb := v }) { hp with }) id v
    · exact h.setPia id { hp with }
  · rw [State.afterCrb_dev]
    exact h.setPia id (hp.writeCrb v)

theorem Devices.Ok.cb1Event (h : s.dev.Ok) (id : PiaId) : (s.cb1Event id).dev.Ok := by
  rw [State.cb1Event, State.piaNotify_dev]
  exact h.setPia id (h.pia id).cb1

/-! ### The disk controller -/

theorem Devices.Ok.mapDisk (h : s.dev.Ok) {f : Disk → Disk} (hf : (f s.dev.disk).Ok) : (s.mapDisk f).dev.Ok :=
  { h with disk := hf }

theorem Devices.Ok.withImage (h : s.dev.Ok) {f : State → State} (hf : (f s).dev.Ok) : (s.withImage f).dev.Ok := by
  unfold State.withImage
  split
  · exact h
  · exact hf

theorem Devices.Ok.diskReadSector (h : s.dev.Ok) : s.diskReadSector.dev.Ok := by
  unfold State.diskReadSector
  dsimp only
  split
  · exact h.mapDisk (h.disk.startRead _ (by rw [Memory.readList_length]; omega))
  · exact h.mapDisk (Disk.ok_fail h.disk.buffer)

theorem Devices.Ok.diskWriteSector (h : s.dev.Ok) : s.diskWriteSector.dev.Ok := by
  unfold State.diskWriteSector
  dsimp only
  split
  · exact h.mapDisk (.of_start rfl rfl rfl h.disk.armed h.disk.buffer)
  · exact h.mapDisk (Disk.ok_fail h.disk.buffer)

theorem Devices.Ok.diskCommand (h : s.dev.Ok) (v : Byte) : (s.diskCommand v).dev.Ok := by
  have hcmd : (s.mapDisk fun d => { d with cmd := v }).dev.Ok := h.mapDisk { h.disk with }
  unfold State.diskCommand
  dsimp only
  split
  · exact hcmd.withImage (hcmd.mapDisk hcmd.disk.restore)
  · exact hcmd.withImage (hcmd.mapDisk hcmd.disk.seek)
  · exact hcmd.withImage hcmd.diskReadSector
  · exact hcmd.withImage hcmd.diskWriteSector
  · exact hcmd.withImage (hcmd.mapDisk hcmd.disk.readAddress)
  · exact hcmd.mapDisk hcmd.disk.forceInterrupt
  · exact hcmd.withImage (hcmd.mapDisk hcmd.disk.writeTrack)
  · exact hcmd

theorem Devices.Ok.diskReadData (h : s.dev.Ok) : s.diskReadData.2.dev.Ok := by
  unfold State.diskReadData
  dsimp only
  split
  · next hstate =>
    have hbusy : s.dev.disk.diskState ≠ .idle := by rintro hidle; simp [hidle] at hstate
    refine h.mapDisk ?_
    split
    · exact .of_idle rfl (and_masked (and_masked h.disk.status _) _) (fun _ => Nat.succ_pos _) h.disk.buffer
    · next hmore => exact h.disk.giveByte hbusy hmore
  · exact h

/-- The end of a WRITE SECTOR reaches the image only where it fits (R589, R595; log 19). -/
theorem Devices.Ok.finishWriteSector (h : s.dev.Ok) {d : Disk} (hbuf : TrackBufferOk d.trackBuf) :
    (s.mapDisk fun _ => d).finishWriteSector.dev.Ok := by
  unfold State.finishWriteSector
  dsimp only
  split
  · next hfits => exact { h with image := h.image.writeList (by simpa using hfits), disk := Disk.ok_finish hbuf }
  · exact { h with disk := Disk.ok_fail hbuf }

/-- The track that a WRITE TRACK fills lies inside the image (R589, R597). -/
theorem Devices.Ok.finishWriteTrack (h : s.dev.Ok) {d : Disk} (hbuf : TrackBufferOk d.trackBuf) :
    (s.mapDisk fun _ => d).finishWriteTrack.dev.Ok := by
  have hdone := Disk.ok_finish_filled hbuf (bs := List.replicate 4608 0xE5#8) List.length_replicate.le
  unfold State.finishWriteTrack
  dsimp only
  split
  · next hvalid =>
    exact { h with
      image := h.image.writeList (by rw [List.length_replicate]; exact diskOffset_le_of_valid hvalid)
      disk := hdone }
  · exact { h with disk := Disk.ok_fail hbuf }

theorem Devices.Ok.diskWriteData (h : s.dev.Ok) (v : Byte) : (s.diskWriteData v).dev.Ok := by
  unfold State.diskWriteData
  dsimp only
  split
  · next hstate =>
    have hbusy : s.dev.disk.diskState ≠ .idle := by rintro hidle; simp [hidle] at hstate
    have hbuf := h.disk.buffer_takeByte hbusy v
    split
    · split
      · exact h.finishWriteSector hbuf
      · exact h.finishWriteTrack hbuf
    · next hmore => exact h.mapDisk (h.disk.takeByte hbusy hmore v)
  · exact h.mapDisk { h.disk with }

theorem Devices.Ok.readDisk (h : s.dev.Ok) (off : Nat) : (s.readDisk off).2.dev.Ok := by
  unfold State.readDisk
  split
  case h_4 => exact h.diskReadData
  all_goals exact h

theorem Devices.Ok.writeDisk (h : s.dev.Ok) (off : Nat) (v : Byte) : (s.writeDisk off v).dev.Ok := by
  unfold State.writeDisk
  split
  · exact h.diskCommand v
  · exact h.mapDisk { h.disk with }
  · exact h.mapDisk { h.disk with }
  · exact h.diskWriteData v
  · exact h.mapDisk (h.disk.latch _ v)
  · exact h

/-- A tick keeps the count towards NMI below 250 while it is armed (R601). -/
theorem Devices.Ok.diskTick (h : s.dev.Ok) : s.diskTick.dev.Ok := by
  unfold State.diskTick
  dsimp only
  split
  · exact (h.mapDisk (h.disk.setDrq)).cb1Event .pia1
  · next hstate =>
    have hidle : s.dev.disk.diskState = .idle := not_not.mp hstate
    split
    · split
      · have hdone := h.mapDisk (f := fun d => { d with idleTicks := d.idleTicks + 1, intrqArmed := false })
          (.of_idle hidle h.disk.status nofun h.disk.buffer)
        split
        · exact hdone
        · exact hdone
      · next hcount => exact h.mapDisk (.of_idle hidle h.disk.status (fun _ => not_le.mp hcount) h.disk.buffer)
    · exact h

/-! ### The bus and the CPU step -/

theorem Devices.Ok.readByte (h : s.dev.Ok) (a : Word) : (s.readByte a).2.dev.Ok := by
  unfold State.readByte
  split
  case h_5 | h_6 => exact h.readPia _ _
  case h_7 => exact h.readDisk _
  all_goals exact h

theorem Devices.Ok.feedTape (h : s.dev.Ok) (b : Byte) : (s.feedTape b).dev.Ok := by
  unfold State.feedTape
  dsimp only
  split <;> exact { h with tape := h.tape.feed b }

theorem Devices.Ok.tapeWrite (h : s.dev.Ok) (a : Word) (v : Byte) : (s.tapeWrite a v).dev.Ok := by
  have hcall : Devices.Ok { s.dev with tape := { s.dev.tape with callCount := (s.dev.tape.callCount + 1) % 16 } } :=
    { h with tape := { h.tape with calls := Nat.mod_lt _ (by decide) } }
  unfold State.tapeWrite
  dsimp only
  split
  · exact Devices.Ok.feedTape (Devices.Ok.readByte hcall _) _
  · exact hcall

theorem Devices.Ok.writeByte (h : s.dev.Ok) (a : Word) (v : Byte) : (s.writeByte a v).dev.Ok := by
  unfold State.writeByte
  split
  case h_4 => exact h.tapeWrite a v
  case h_5 | h_6 => exact h.writePia _ _ v
  case h_7 => exact h.writeDisk _ v
  case h_8 => exact { h with }
  all_goals exact h

theorem State.DataOk.readByte (h : s.DataOk) (a : Word) : (s.readByte a).2.DataOk :=
  h.of_mem_eq (s.readByte_mem a) (h.dev.readByte a)

theorem State.DataOk.writeByte (h : s.DataOk) (a : Word) (v : Byte) : (s.writeByte a v).DataOk :=
  ⟨s.memory_writeByte a v h.mem, h.dev.writeByte a v⟩

/-- Whatever a CPU step does to memory and the devices it does by bus accesses. -/
theorem State.BusRun.dataOk {t : State} (hrun : s.BusRun t) (h : s.DataOk) : t.DataOk := by
  induction hrun with
  | start => exact h
  | mapRegs _ f ih => exact ih.congr rfl rfl
  | lines _ l ih => exact ih.congr rfl rfl
  | cpuState _ hc ih => exact ih.congr rfl rfl
  | lastPc _ pc ih => exact ih.congr rfl rfl
  | recordBytes _ bs ih => exact ih.congr rfl rfl
  | readByte _ a ih => exact ih.readByte a
  | writeByte _ a v ih => exact ih.writeByte a v

end

/-! ### Resets (spec/61_pia.md R502, spec/63_disk.md R604, spec/64_tape_trap.md R639) -/

theorem Pia.ok_reset : Pia.reset.Ok := ⟨rfl, rfl⟩

theorem Disk.ok_reset : Disk.reset.Ok := .of_idle rfl rfl nofun ⟨rfl, rfl⟩

theorem Tape.ok_reset : Tape.reset.Ok where
  resting := nofun
  calls := Nat.succ_pos _
  capture := Nat.zero_le _
  name := Nat.zero_le _
  alnum := rfl
  header := nofun

section
variable {s : State}

theorem Devices.Ok.resetPeripherals {d : Devices} (h : d.Ok) : d.resetPeripherals.Ok :=
  { h with pia0 := Pia.ok_reset, pia1 := Pia.ok_reset, disk := Disk.ok_reset, tape := Tape.ok_reset }

theorem State.DataOk.executiveReset (h : s.DataOk) (kind : ResetKind) : (s.executiveReset kind).DataOk := by
  have hcore : (s.resetCore kind).DataOk := by
    cases kind <;> exact ⟨h.mem, h.dev.resetPeripherals⟩
  exact ((State.BusRun.start.readWord 0xFFFE).setPC _).dataOk hcore

/-! ### The polls and memory and the devices (spec/65_executive.md R655 to R658) -/

theorem State.DataOk.pollReset (h : s.DataOk) (b : Bool) (now : BitVec 32) : (s.pollReset b now).DataOk := by
  unfold State.pollReset
  split
  · split
    · exact h
    · exact h.congr rfl rfl
  · split
    · have hreleased : (s.mapExe fun e => { e with resetPressedAt := none }).DataOk := h.congr rfl rfl
      dsimp only
      split
      · exact (hreleased.writeByte 0x0071 0x00).executiveReset .cold
      · exact hreleased.executiveReset .warm
    · exact h

theorem State.DataOk.cb1Event (h : s.DataOk) (id : PiaId) : (s.cb1Event id).DataOk :=
  h.of_mem_eq (by simp [State.cb1Event]) (h.dev.cb1Event id)

theorem State.diskTick_mem (s : State) : s.diskTick.mem = s.mem := by
  unfold State.diskTick
  dsimp only
  split
  · simp [State.cb1Event]
  · split
    · split
      · split <;> rfl
      · rfl
    · rfl

theorem State.DataOk.pollTick (h : s.DataOk) (now : BitVec 32) : (s.pollTick now).DataOk := by
  unfold State.pollTick
  split
  · exact h.of_mem_eq (State.diskTick_mem _) (Devices.Ok.diskTick h.dev)
  · exact h

theorem Devices.Ok.scan {d : Devices} (h : d.Ok) (sc : Byte) : (d.scan sc).Ok := by
  unfold Devices.scan
  split
  · exact h
  · split <;> exact { h with }

theorem State.DataOk.suspend (h : s.DataOk) : s.suspend.DataOk := by
  have hdev : Devices.Ok { s.dev with fnKey := .none } := { h.dev with }
  unfold State.suspend
  dsimp only
  split <;> exact ⟨h.mem, hdev⟩

theorem State.DataOk.pollKeyboard (h : s.DataOk) (sc : Byte) : (s.pollKeyboard sc).DataOk := by
  have hscan : (s.mapDev (Devices.scan sc)).DataOk := ⟨h.mem, h.dev.scan sc⟩
  unfold State.pollKeyboard
  dsimp only
  split
  · exact hscan.suspend
  · exact hscan

theorem State.DataOk.pollCartridge (h : s.DataOk) (edge : Bool) : (s.pollCartridge edge).DataOk := by
  unfold State.pollCartridge
  split
  · exact h.cb1Event .pia1
  · exact h

/-- A rendered frame has its bytes, and a drawn one needs none (R549, R550). -/
theorem State.DataOk.setFrame (h : s.DataOk) {f : Frame} (hf : f.Ok) : (s.setFrame f).DataOk :=
  ⟨h.mem, { h.dev with frame := hf }⟩

theorem State.DataOk.render (h : s.DataOk) : s.render.DataOk := by
  have hdraw : s.drawFrame.DataOk := State.DataOk.setFrame (s := s.draw.2) (h.congr rfl rfl) trivial
  unfold State.render
  split
  case h_1 => exact hdraw
  case h_2 =>
    split
    · exact h.congr rfl rfl
    · exact hdraw
  all_goals exact h.setFrame State.length_renderBytes

theorem State.DataOk.fatalHalt (h : s.DataOk) (code : FatalCode) : (s.fatalHalt code).DataOk := h.congr rfl rfl

theorem State.DataOk.pollFrame (h : s.DataOk) (now : BitVec 32) : (s.pollFrame now).DataOk := by
  have hrender : ((s.mapExe fun e => { e with lastRefreshUs := now }).render).DataOk :=
    State.DataOk.render (h.congr rfl rfl)
  unfold State.pollFrame
  split
  · dsimp only
    split
    · exact hrender.fatalHalt _
    · exact hrender.cb1Event .pia0
  · exact h

theorem State.DataOk.load (h : s.DataOk) (a : Word) (bs : List Byte) : (s.load a bs).DataOk := by
  refine ⟨s.memory_load a bs h.mem, ?_⟩
  rw [State.load_eq]
  exact h.dev

theorem State.DataOk.loaderEvent (h : s.DataOk) (ev : LoaderEvent) : (s.loaderEvent ev).DataOk := by
  cases ev with
  | mountImage kind rawSides bytes =>
    have himage := DiskImage.ok_ofBytes kind rawSides bytes
    exact ⟨h.mem, { h.dev with image := himage }⟩
  | loadCartridge bytes => exact (h.load 0xC000 (bytes.take 0x3F00)).load 0x009D [0xC0, 0x00]
  | loadBasic bytes => exact h.load 0x8000 (bytes.take 0x4000)
  | loadDos offset bytes => exact h.load (BitVec.ofNat 16 (0x8000 + offset)) (bytes.take (0x7F00 - offset))
  | resume => exact h.congr rfl rfl

theorem State.DataOk.runLoader (h : s.DataOk) (evs : List LoaderEvent) : (s.runLoader evs).DataOk := by
  induction evs generalizing s with
  | nil => exact h
  | cons ev rest ih =>
    unfold State.runLoader
    split
    · exact ih (h.loaderEvent ev)
    · exact h

theorem State.DataOk.finishIteration (h : s.DataOk) : s.finishIteration.DataOk := by
  unfold State.finishIteration
  split
  · exact h.fatalHalt _
  · split
    · exact h
    · next a rest _ =>
      have htaken : State.DataOk { s with host := { s.host with answers := rest } } := h.congr rfl rfl
      exact (((((htaken.pollReset _ _).pollTick _).pollKeyboard _).pollCartridge _).pollFrame _).runLoader _

end

/-! ### What the executive decides by (spec/65_executive.md R656 to R658) -/

/-- What the executive decides by: `cpu_state`, the suspension, the fatal events and the loader's key. -/
structure Control where
  cpuState : CpuState
  suspended : Bool
  resumeState : CpuState
  fatal : Option FatalCode
  halted : Option FatalCode
  fnKey : FnKey

/-- The part of a machine that the executive decides by. -/
def State.control (s : State) : Control :=
  ⟨s.cpuState, s.exe.suspended, s.exe.resumeState, s.exe.fatal, s.exe.halted, s.dev.fnKey⟩

/-- The CPU is HALTED exactly while the machine is suspended, what it resumes to is neither HALTED nor EXCEPTION, and no key
waits for the loader: so it is also while a fatal event waits for the check. -/
structure Control.Settled (c : Control) : Prop where
  suspended : c.suspended = true ↔ c.cpuState = .halted
  resume : c.resumeState ≠ .halted ∧ c.resumeState ≠ .exception
  fnKey : c.fnKey = .none

/-- So it is after the check, with no fatal event. -/
structure Control.Calm (c : Control) : Prop extends c.Settled where
  exception : c.cpuState ≠ .exception
  fatal : c.fatal = none

section
variable {s t : State}

theorem State.ExecutiveOk.settled (h : s.ExecutiveOk) : s.control.Settled := ⟨h.suspended, h.resume, h.fnKey⟩

theorem Control.Calm.executiveOk (h : s.control.Calm) : s.ExecutiveOk where
  exception he := absurd he h.exception
  fatal hf := absurd hf (by rw [show s.exe.fatal = none from h.fatal]; nofun)
  suspended := h.suspended
  resume := h.resume
  fnKey := h.fnKey

theorem Control.Settled.fatalHalt (h : s.control.Settled) (code : FatalCode) : (s.fatalHalt code).ExecutiveOk :=
  ⟨fun _ => rfl, fun _ => rfl, h.suspended, h.resume, h.fnKey⟩

theorem State.ExecutiveOk.calm (h : s.ExecutiveOk) (hlive : s.exe.halted = none) : s.control.Calm where
  toSettled := h.settled
  exception he := by simpa [hlive] using h.exception he
  fatal := by
    have hno := h.fatal
    rw [hlive] at hno
    exact Option.not_isSome_iff_eq_none.mp fun hf => nomatch hno hf

/-! ### The CPU step -/

/-- A machine that is not suspended, with the rest of what `Control.Settled` says. -/
structure State.Awake (s : State) : Prop where
  suspended : s.exe.suspended = false
  cpuState : s.cpuState ≠ .halted
  resume : s.exe.resumeState ≠ .halted ∧ s.exe.resumeState ≠ .exception
  fnKey : s.dev.fnKey = .none

theorem State.Awake.of_kept (h : s.Awake) (hkept : s.Kept t) : t.Awake where
  suspended := hkept.suspended.trans h.suspended
  cpuState := by rw [hkept.cpuState]; exact h.cpuState
  resume := by rw [hkept.resumeState]; exact h.resume
  fnKey := hkept.fnKey.trans h.fnKey

theorem State.Awake.writeByte (h : s.Awake) (a : Word) (v : Byte) : (s.writeByte a v).Awake := by
  rcases s.writeByte_kept a v with hkept | hkept
  · exact State.Awake.of_kept (s := s.poke a v) { h with } hkept
  · exact h.of_kept hkept

theorem State.BusRun.awake (hrun : s.BusRun t) (h : s.Awake) : t.Awake := by
  induction hrun with
  | start => exact h
  | mapRegs _ f ih => exact { ih with }
  | lines _ l ih => exact { ih with }
  | cpuState _ hc ih => exact { ih with cpuState := hc }
  | lastPc _ pc ih => exact { ih with }
  | recordBytes _ bs ih => exact { ih with }
  | readByte _ a ih => exact ih.of_kept (State.kept_readByte a _)
  | writeByte _ a v ih => exact ih.writeByte a v

theorem State.Awake.settled (h : s.Awake) : s.control.Settled :=
  ⟨⟨fun hs => absurd (h.suspended.symm.trans hs) nofun, fun hc => absurd hc h.cpuState⟩, h.resume, h.fnKey⟩

theorem cpuStep_settled (hstep : cpuStep s = .next t) (h : s.control.Settled) : t.control.Settled := by
  rcases cpuStep_cases hstep with rfl | ⟨hawake, hrun⟩
  · exact h
  · have hcpu : s.cpuState ≠ .halted := fun hc => absurd (hawake.symm.trans (h.suspended.mpr hc)) nofun
    exact (hrun.awake ⟨hawake, hcpu, h.resume, h.fnKey⟩).settled

/-! ### The polls -/

theorem State.cb1Event_control (id : PiaId) (s : State) : (s.cb1Event id).control = s.control := by
  cases id <;> simp [State.control, State.cb1Event, State.setPia_dev]

theorem State.diskTick_control (s : State) : s.diskTick.control = s.control := by
  unfold State.diskTick
  dsimp only
  split
  · rw [State.cb1Event_control]
    rfl
  · split
    · split
      · split <;> rfl
      · rfl
    · rfl

theorem State.pollTick_control (now : BitVec 32) (s : State) : (s.pollTick now).control = s.control := by
  unfold State.pollTick
  split
  · rw [State.diskTick_control]
    rfl
  · rfl

theorem State.pollCartridge_control (edge : Bool) (s : State) : (s.pollCartridge edge).control = s.control := by
  unfold State.pollCartridge
  split
  · exact s.cb1Event_control .pia1
  · rfl

theorem State.cx2Level_exe (cr : Byte) (s : State) : (s.cx2Level cr).2.exe = s.exe := by
  unfold State.cx2Level
  split <;> rfl

theorem State.reportMux_exe (s : State) : s.reportMux.exe = s.exe := by
  rw [State.reportMux, State.call_exe, State.cx2Level_exe, State.cx2Level_exe]

theorem State.afterCra_exe (id : PiaId) (s : State) : (s.afterCra id).exe = s.exe := by
  cases id with
  | pia0 => exact s.reportMux_exe
  | pia1 => exact State.cx2Level_exe _ s

theorem State.afterCrb_exe (id : PiaId) (s : State) : (s.afterCrb id).exe = s.exe := by
  cases id with
  | pia0 => exact s.reportMux_exe
  | pia1 => rfl

theorem State.afterOra_exe (id : PiaId) (s : State) : (s.afterOra id).exe = s.exe := by
  cases id <;> rfl

theorem State.afterOrb_exe (id : PiaId) (v : Byte) (s : State) : (s.afterOrb id v).exe = s.exe := by
  cases id <;> rfl

theorem State.writePia_exe (id : PiaId) (off : BitVec 2) (v : Byte) (s : State) : (s.writePia id off v).exe = s.exe := by
  unfold State.writePia
  rw [State.piaNotify_exe]
  split
  · split
    · rw [State.afterOra_exe, State.setPia_exe]
    · rw [State.setPia_exe]
  · rw [State.afterCra_exe, State.setPia_exe]
  · split
    · rw [State.afterOrb_exe, State.setPia_exe]
    · rw [State.setPia_exe]
  · rw [State.afterCrb_exe, State.setPia_exe]

theorem State.feedTape_exe (b : Byte) (s : State) : (s.feedTape b).exe = s.exe := by
  unfold State.feedTape
  dsimp only
  split <;> rfl

theorem State.tapeWrite_exe (a : Word) (v : Byte) (s : State) : (s.tapeWrite a v).exe = s.exe := by
  unfold State.tapeWrite
  dsimp only
  split
  · rw [State.feedTape_exe, State.readByte_exe]
    rfl
  · rfl

/-- The write of a cold reset reaches, where a disk controller stands there, its track register and no command: it is no
fatal event (R581, R656). -/
theorem State.writeByte_coldStart_exe (v : Byte) (s : State) : (s.writeByte 0x0071 v).exe = s.exe := by
  unfold State.writeByte
  split
  case h_4 => exact State.tapeWrite_exe _ v s
  case h_5 | h_6 => exact State.writePia_exe _ _ v s
  all_goals rfl

theorem State.writeByte_coldStart_control (v : Byte) (s : State) : (s.writeByte 0x0071 v).control = s.control := by
  rw [State.control, State.writeByte_cpuState, State.writeByte_coldStart_exe, State.writeByte_fnKey, State.control]

theorem State.executiveReset_control (kind : ResetKind) (s : State) :
    (s.executiveReset kind).control = { s.control with cpuState := .running, suspended := false } := by
  have hkey := (State.kept_readByte (0xFFFE + 1#16) ((s.resetCore kind).readByte 0xFFFE).2).fnKey.trans
    (State.kept_readByte 0xFFFE (s.resetCore kind)).fnKey
  have hfn : ((s.resetCore kind).readWord 0xFFFE).2.dev.fnKey = s.dev.fnKey := by
    refine hkey.trans ?_
    cases kind <;> rfl
  simp only [State.control, State.executiveReset, State.setPC_cpuState, State.setPC_exe, State.setPC_dev,
    State.readWord_cpuState, State.readWord_exe, hfn]
  cases kind <;> rfl

/-- A reset ends the suspension and leaves no fatal event behind. -/
theorem Control.Calm.executiveReset (h : s.control.Calm) (kind : ResetKind) : (s.executiveReset kind).control.Calm := by
  rw [State.executiveReset_control]
  exact { h with suspended := by simp, exception := nofun }

theorem Control.Calm.pollReset (h : s.control.Calm) (b : Bool) (now : BitVec 32) :
    (s.pollReset b now).control.Calm := by
  unfold State.pollReset
  split
  · split <;> exact h
  · split
    · have hreleased : (s.mapExe fun e => { e with resetPressedAt := none }).control.Calm := h
      dsimp only
      split
      · refine Control.Calm.executiveReset ?_ .cold
        rw [State.writeByte_coldStart_control]
        exact hreleased
      · exact hreleased.executiveReset .warm
    · exact h

/-- The suspension remembers a state that is neither HALTED nor EXCEPTION, and takes the loader's key (R658). -/
theorem Control.Calm.suspend (h : { s.control with fnKey := .none }.Calm) : s.suspend.control.Calm := by
  unfold State.suspend
  dsimp only
  split
  · exact h
  · next hrun =>
    exact { h with
      suspended := by simp [State.control]
      resume := ⟨fun hc => hrun (h.suspended.mpr hc), h.exception⟩
      exception := nofun }

theorem Control.Calm.pollKeyboard (h : s.control.Calm) (sc : Byte) : (s.pollKeyboard sc).control.Calm := by
  unfold State.pollKeyboard
  dsimp only
  split
  · exact Control.Calm.suspend { h with fnKey := rfl }
  · next hkey =>
    have hnone : (s.dev.scan sc).fnKey = .none := by
      cases hfn : (s.dev.scan sc).fnKey with
      | none => rfl
      | loaderEscape => exact absurd hfn hkey
    exact { h with fnKey := hnone }

/-- A render may be a fatal event, and else leaves the executive alone (R550). -/
theorem State.render_control (s : State) : ∃ f, s.render.control = { s.control with fatal := f } := by
  unfold State.render
  split
  case h_2 =>
    split
    · exact ⟨some .vdgDmaMode, rfl⟩
    · exact ⟨s.exe.fatal, rfl⟩
  all_goals exact ⟨s.exe.fatal, rfl⟩

/-- A fatal render halts the machine in the same poll (R550, R657). -/
theorem Control.Calm.pollFrame (h : s.control.Calm) (now : BitVec 32) : (s.pollFrame now).ExecutiveOk := by
  unfold State.pollFrame
  split
  · obtain ⟨f, hf⟩ := State.render_control (s.mapExe fun e => { e with lastRefreshUs := now })
    have hsettled : (s.mapExe fun e => { e with lastRefreshUs := now }).render.control.Settled := by
      rw [hf]
      exact { h with }
    dsimp only
    split
    · exact hsettled.fatalHalt _
    · next hquiet =>
      refine Control.Calm.executiveOk ?_
      rw [State.cb1Event_control]
      have hcpu : (s.mapExe fun e => { e with lastRefreshUs := now }).render.cpuState = s.cpuState :=
        congrArg Control.cpuState hf
      exact ⟨hsettled, fun he => h.exception (hcpu.symm.trans he), hquiet⟩
  · exact h.executiveOk

/-! ### The loader and the rest of the iteration -/

theorem Control.Calm.loaderEvent (h : s.control.Calm) (ev : LoaderEvent) : (s.loaderEvent ev).control.Calm := by
  cases ev with
  | mountImage kind rawSides bytes => exact h
  | loadCartridge bytes => rw [State.loaderEvent, State.loadCartridge_eq]; exact h
  | loadBasic bytes => rw [State.loaderEvent, State.loadBasic_eq]; exact h
  | loadDos offset bytes => rw [State.loaderEvent, State.loadDos_eq]; exact h
  | resume =>
    have hresume := h.resume
    exact { h with suspended := ⟨nofun, fun hc => absurd hc hresume.1⟩, exception := hresume.2 }

theorem State.ExecutiveOk.runLoader (h : s.ExecutiveOk) (evs : List LoaderEvent) : (s.runLoader evs).ExecutiveOk := by
  induction evs generalizing s with
  | nil => exact h
  | cons ev rest ih =>
    unfold State.runLoader
    split
    · next hrun =>
      have hlive : s.exe.halted = none := by simpa using (Bool.and_eq_true_iff.mp hrun).2
      exact ih ((h.calm hlive).loaderEvent ev).executiveOk
    · exact h

theorem Control.Calm.poll (h : s.control.Calm) (a : HostAnswers) : (s.poll a).ExecutiveOk := by
  have hreset := h.pollReset a.resetButton a.nowReset
  rw [← State.pollTick_control a.nowTick] at hreset
  have hkeys := hreset.pollKeyboard a.scanCode
  rw [← State.pollCartridge_control a.cartridgeEdge] at hkeys
  exact (hkeys.pollFrame a.nowFrame).runLoader a.loader

/-- The check halts the machine at a fatal event; without one the polls keep it calm. -/
theorem Control.Settled.finishIteration (h : s.control.Settled) : s.finishIteration.ExecutiveOk := by
  unfold State.finishIteration
  split
  · exact h.fatalHalt _
  · next hcode =>
    have hcpu : s.cpuState ≠ .exception := fun he => by simp [State.fatalCode, he] at hcode
    have hfatal : s.exe.fatal = none := by simpa [State.fatalCode, hcpu] using hcode
    have hcalm : s.control.Calm := ⟨h, hcpu, hfatal⟩
    split
    · exact hcalm.executiveOk
    · next a rest _ => exact Control.Calm.poll (s := { s with host := { s.host with answers := rest } }) hcalm a

end

/-! ### The invariant -/

/-- The invariant is what it says of memory and the devices and what it says of the executive. -/
theorem State.inv_iff (s : State) : s.Inv ↔ s.DataOk ∧ s.ExecutiveOk :=
  ⟨fun h => ⟨⟨h.mem, { h with }⟩, h.executive⟩,
    fun ⟨hdata, hexe⟩ => { hdata.dev with mem := hdata.mem, executive := hexe }⟩

/-- Settles O9: the CPU step is made of bus accesses, and every poll keeps its part; a fatal event does not outlive the
check. -/
theorem stepKeepsInv : Obligations.StepKeepsInv := by
  intro s t hinv hstep
  obtain ⟨u, hcpu, rfl⟩ := step_eq_next hstep
  obtain ⟨hdata, hexe⟩ := s.inv_iff.mp hinv
  have hdata' : u.DataOk := by
    rcases cpuStep_cases hcpu with rfl | ⟨-, hrun⟩
    · exact hdata
    · exact hrun.dataOk hdata
  exact u.finishIteration.inv_iff.mpr ⟨hdata'.finishIteration, (cpuStep_settled hcpu hexe.settled).finishIteration⟩

/-- Settles O8: memory and the buffers are empty, and the devices are reset. -/
theorem invHoldsAtReset : Obligations.InvHoldsAtReset := by
  refine State.reset.inv_iff.mpr ⟨⟨⟨rfl, rfl⟩, ?_⟩, ?_⟩
  · exact ⟨⟨rfl, rfl⟩, Disk.ok_reset, Pia.ok_reset, Pia.ok_reset, Tape.ok_reset, trivial⟩
  · exact ⟨nofun, nofun, ⟨nofun, nofun⟩, ⟨nofun, nofun⟩, rfl⟩

end Sys2Proof.Machine

/-! ## What the decoder answers as more bytes come (spec/30_encoding.md R120, R121)

A decoder that has its answer keeps it whatever bytes follow. So no beginning of the bytes of an instruction is an
instruction, or illegal, by itself: there the decoder asks for more bytes, and the fetch goes on. -/

namespace Sys2Proof

/-! ### What more bytes change (R120) -/

/-- The same answer with more bytes left over. -/
def Decoded.extend {α : Type} (more : List Byte) (d : Decoded α) : Decoded α :=
  match d with
  | .ok (v, rest) => .ok (v, rest ++ more)
  | .error e => .error e

/-- A decoder whose answer, unless it asks for more bytes, is the same with more bytes after these. -/
def Stable {α : Type} (f : List Byte → Decoded α) : Prop :=
  ∀ bs more, f bs ≠ .error .truncated → f (bs ++ more) = (f bs).extend more

theorem stable_ok {α : Type} (v : α) : Stable fun bs => .ok (v, bs) := fun _ _ _ => rfl

theorem stable_error {α : Type} (e : DecodeError) : Stable (α := α) fun _ => .error e := fun _ _ _ => rfl

theorem Stable.map {α β : Type} {f : List Byte → Decoded α} (h : Stable f) (g : α → β) :
    Stable fun bs => Decoded.map g (f bs) := by
  intro bs more hbs
  have hf : f bs ≠ .error .truncated := fun he => hbs (congrArg (Decoded.map g) he)
  dsimp only
  rw [h bs more hf]
  cases f bs <;> rfl

/-- A decoder that takes a byte and goes on by it. -/
theorem Stable.cons {α : Type} {f : List Byte → Decoded α} (hnil : f [] = .error .truncated)
    (h : ∀ b, Stable fun bs => f (b :: bs)) : Stable f := by
  intro bs more hbs
  match bs, hbs with
  | [], hbs => exact absurd hnil hbs
  | b :: rest, hbs => exact h b rest more hbs

theorem stable_decodeByte : Stable decodeByte := .cons rfl stable_ok

theorem stable_decodeWord : Stable decodeWord := .cons rfl fun _ => .cons rfl fun _ => stable_ok _

theorem stable_decodeIndexedForm (pb : Byte) : Stable (decodeIndexedForm pb) := by
  unfold decodeIndexedForm
  dsimp only
  split
  case h_1 | h_3 =>
    split
    · exact stable_error _
    · exact stable_ok _
  case h_8 | h_11 => exact stable_decodeByte.map _
  case h_9 | h_12 => exact stable_decodeWord.map _
  case h_13 =>
    split
    · exact stable_decodeWord.map _
    · exact stable_error _
  case h_14 => exact stable_error _
  all_goals exact stable_ok _

theorem stable_decodeIndexed : Stable decodeIndexed := by
  refine .cons rfl fun pb => ?_
  unfold decodeIndexed
  dsimp only
  split
  · exact stable_decodeIndexedForm pb
  · exact stable_ok _

theorem stable_decodePair : Stable decodePair := by
  refine .cons rfl fun pb => ?_
  unfold decodePair
  dsimp only
  split
  · split
    · exact stable_ok _
    · exact stable_error _
  · exact stable_error _

theorem Shape.stable_decode (sh : Shape) : Stable sh.decode := by
  cases sh with
  | inh i => exact stable_ok i
  | byte f => exact stable_decodeByte.map f
  | word f => exact stable_decodeWord.map f
  | idx f => exact stable_decodeIndexed.map f
  | pair f => exact stable_decodePair.map _

theorem stable_decodeAfter (page : Nat) (op : Byte) (o : Option Shape) : Stable (decodeAfter page op o) := by
  cases o with
  | none => exact stable_error _
  | some sh => exact sh.stable_decode

theorem stable_decodePage (page : Nat) (rows : List (Byte × Shape)) : Stable (decodePage page rows) :=
  .cons rfl fun op => stable_decodeAfter page op (lookup op rows)

theorem stable_decode : Stable decode := by
  refine .cons rfl fun op => ?_
  unfold decode
  dsimp only
  split_ifs
  · exact stable_decodePage 2 page2
  · exact stable_decodePage 3 page3
  · exact stable_decodeAfter 1 op _

/-- While an instruction is not complete, the decoder asks for more bytes. -/
theorem decode_truncated_of_append {bs more rest : List Byte} {i : Instr} (h : decode (bs ++ more) = .ok (i, rest))
    (hlen : bs.length < (encode i).length) : decode bs = .error .truncated := by
  by_contra hdec
  have hext := stable_decode bs more hdec
  rw [h] at hext
  match hbs : decode bs, hext with
  | .ok (j, left), hext =>
    cases hext
    obtain ⟨-, henc⟩ := decodeThenEncode _ _ _ hbs
    rw [← henc, List.length_append] at hlen
    omega

end Sys2Proof

/-! ## The fetch of an instruction (spec/60_exceptions.md R430, spec/10_state.md R35) -/

namespace Sys2Proof.Machine
open Sys2Proof.Reference

theorem bytesFrom_add (s : State) (a : Word) (m n : Nat) :
    bytesFrom s a (m + n) = bytesFrom s a m ++ bytesFrom s (a + BitVec.ofNat 16 m) n := by
  induction m generalizing a with
  | zero => simp [bytesFrom]
  | succ m ih =>
    have hnext : a + 1#16 + BitVec.ofNat 16 m = a + BitVec.ofNat 16 (m + 1) := by bv_omega
    rw [Nat.succ_add, bytesFrom, ih, hnext, bytesFrom, List.cons_append]

theorem bytesFrom_succ_last (s : State) (a : Word) (n : Nat) :
    bytesFrom s a (n + 1) = bytesFrom s a n ++ [s.peek (a + BitVec.ofNat 16 n)] :=
  bytesFrom_add s a n 1

section
variable {s : State} {n : Nat} {i : Instr} {rest : List Byte}

/-- The loop passes the bytes up to which the decoder asks for more. -/
theorem State.fetchLoop_pass {seen : List Byte} (fuel : Nat) (hplain : PlainFrom s s.regs.pc n)
    (hshort : ∀ m < n, decode (seen ++ bytesFrom s s.regs.pc (m + 1)) = .error .truncated) :
    s.fetchLoop (fuel + n) seen =
      (s.setPC (s.regs.pc + BitVec.ofNat 16 n)).fetchLoop fuel (seen ++ bytesFrom s s.regs.pc n) := by
  induction n generalizing fuel with
  | zero => simp [bytesFrom, State.setPC, State.mapRegs]
  | succ n ih =>
    have hpc : s.regs.pc + BitVec.ofNat 16 n + 1#16 = s.regs.pc + BitVec.ofNat 16 (n + 1) := by bv_omega
    have hfetch := State.fetch8_plain (s := s.setPC (s.regs.pc + BitVec.ofNat 16 n)) (hplain n n.lt_succ_self)
    have hlast := hshort n n.lt_succ_self
    rw [bytesFrom_succ_last, ← List.append_assoc] at hlast ⊢
    rw [← Nat.add_assoc, Nat.add_right_comm, ih (fuel + 1) (fun m hm => hplain m (Nat.lt_succ_of_lt hm))
      (fun m hm => hshort m (Nat.lt_succ_of_lt hm)), State.fetchLoop_truncated, hfetch, ← hpc]
    · rfl
    · rw [hfetch]
      exact hlast

/-- At the byte that completes an instruction, the loop ends. -/
theorem State.fetchLoop_accepted {seen : List Byte} (fuel : Nat) (h : decode (seen ++ [s.fetch8.1]) = .ok (i, rest)) :
    s.fetchLoop (fuel + 1) seen = (some i, s.fetch8.2.recordBytes (seen ++ [s.fetch8.1])) := by
  simp only [State.fetchLoop, h]

/-- The loop takes `n + 1` bytes when the last of them is the first that makes them an instruction. -/
theorem State.fetchLoop_decoded {seen : List Byte} (fuel : Nat) (hplain : PlainFrom s s.regs.pc (n + 1))
    (hshort : ∀ m < n, decode (seen ++ bytesFrom s s.regs.pc (m + 1)) = .error .truncated)
    (hdec : decode (seen ++ bytesFrom s s.regs.pc (n + 1)) = .ok (i, rest)) :
    s.fetchLoop (fuel + 1 + n) seen =
      (some i, (s.setPC (s.regs.pc + BitVec.ofNat 16 (n + 1))).recordBytes (seen ++ bytesFrom s s.regs.pc (n + 1))) := by
  have hpc : s.regs.pc + BitVec.ofNat 16 n + 1#16 = s.regs.pc + BitVec.ofNat 16 (n + 1) := by bv_omega
  have hfetch := State.fetch8_plain (s := s.setPC (s.regs.pc + BitVec.ofNat 16 n)) (hplain n n.lt_succ_self)
  rw [bytesFrom_succ_last, ← List.append_assoc] at hdec ⊢
  rw [State.fetchLoop_pass _ (fun m hm => hplain m (Nat.lt_succ_of_lt hm)) hshort,
    State.fetchLoop_accepted (i := i) (rest := rest), hfetch, ← hpc]
  · rfl
  · rw [hfetch]
    exact hdec

theorem State.fetch_accepted (hn : n < maxLength) (hplain : PlainFrom s s.regs.pc (n + 1))
    (hshort : ∀ m < n, decode (bytesFrom s s.regs.pc (m + 1)) = .error .truncated)
    (hdec : decode (bytesFrom s s.regs.pc (n + 1)) = .ok (i, rest)) : s.fetch = (some i, afterFetch s (n + 1)) := by
  have hbytes : ∀ m, [] ++ bytesFrom { s with lastPc := s.regs.pc } s.regs.pc m = bytesFrom s s.regs.pc m :=
    fun _ => bytesFrom_congr fun _ _ => rfl
  have hfuel : maxLength = maxLength - (n + 1) + 1 + n := by omega
  have hloop := State.fetchLoop_decoded (s := { s with lastPc := s.regs.pc }) (seen := []) (maxLength - (n + 1)) hplain
    (fun m hm => by rw [hbytes]; exact hshort m hm) (by rw [hbytes]; exact hdec)
  rw [hbytes, ← hfuel] at hloop
  exact hloop

/-- The bytes that decode are the instruction's encoding, with the rest after it; the decoder asks for more before its last
byte. -/
theorem State.fetch_decoded (hdec : decode (bytesFrom s s.regs.pc maxLength) = .ok (i, rest))
    (hplain : PlainFrom s s.regs.pc (maxLength - rest.length)) :
    s.fetch = (some i, afterFetch s (maxLength - rest.length)) := by
  obtain ⟨hwf, henc⟩ := decodeThenEncode _ _ _ hdec
  have hlength : (encode i).length + rest.length = maxLength := by
    rw [← List.length_append, henc, length_bytesFrom]
  have hlen : (encode i).length = maxLength - rest.length := by omega
  have hprefix (m : Nat) (hm : m ≤ maxLength) :
      bytesFrom s s.regs.pc maxLength =
        bytesFrom s s.regs.pc m ++ bytesFrom s (s.regs.pc + BitVec.ofNat 16 m) (maxLength - m) := by
    rw [← bytesFrom_add, Nat.add_sub_cancel' hm]
  have hshort (m : Nat) (hm : m < (encode i).length) : decode (bytesFrom s s.regs.pc m) = .error .truncated :=
    decode_truncated_of_append (hprefix m (by omega) ▸ hdec) (by rwa [length_bytesFrom])
  have hbytes : bytesFrom s s.regs.pc (encode i).length = encode i := by
    have happ := henc.trans (hprefix (encode i).length (by omega))
    exact (List.append_inj_left happ (length_bytesFrom ..).symm).symm
  have hwhole : decode (bytesFrom s s.regs.pc (encode i).length) = .ok (i, []) := by
    rw [hbytes, ← List.append_nil (encode i)]
    exact encodeThenDecode i [] hwf
  rw [← hlen] at hplain ⊢
  generalize (encode i).length = n at *
  cases n with
  | zero => cases hwhole
  | succ n => exact State.fetch_accepted (by omega) hplain (fun m hm => hshort _ (Nat.succ_lt_succ hm)) hwhole

end

/-- Settles O5: the fetch of a ready machine takes the bytes of the instruction, and the CPU step runs it. -/
theorem stepRunsTheDecodedInstruction : Obligations.StepRunsTheDecodedInstruction := by
  intro s i rest hready hdec hplain
  have hlive : s.exe.halted = none := hready.1
  have hexec : cpuStep s = exec i (afterFetch s (maxLength - rest.length)) := by
    rw [cpuStep_of_ready hready, executeNext, State.fetch_decoded hdec hplain]
  rw [step, hlive, hexec]
  rfl

end Sys2Proof.Machine

/-! ## The flags that most instructions leave alone (spec/10_state.md R38 to R40, R234)

E, F, H and I are together what is left of CC with N, Z, V and C cleared. One lemma for each shape of an instruction
says that this part stays; the exceptions are the additions with half-carry, the software interrupts and the writes of
CC as a whole. -/

namespace Sys2Proof.Machine
open Sys2Proof.Reference

/-! ### E, F, H and I -/

/-- CC with N, Z, V and C cleared: what is left says E, F, H and I. -/
def CC.high (cc : CC) : CC := { cc with n := false, z := false, v := false, c := false }

theorem CC.high_eq_iff {c d : CC} : c.high = d.high ↔ c.e = d.e ∧ c.f = d.f ∧ c.h = d.h ∧ c.i = d.i := by
  simp [CC.high]

@[simp] theorem CC.nz8_high (r : Byte) (cc : CC) : (CC.nz8 r cc).high = cc.high := rfl
@[simp] theorem CC.nzv8_high (r : Byte) (cc : CC) : (CC.nzv8 r cc).high = cc.high := rfl
@[simp] theorem CC.nzv16_high (r : Word) (cc : CC) : (CC.nzv16 r cc).high = cc.high := rfl
@[simp] theorem CC.cleared_high (cc : CC) : cc.cleared.high = cc.high := rfl

/-- An operation on two operands that leaves E, F, H and I alone. -/
def BinaryKeepsHigh {α : Type} (f : α → α → CC → α × CC) : Prop := ∀ a m cc, (f a m cc).2.high = cc.high

/-- An operation on one operand that leaves E, F, H and I alone. -/
def UnaryKeepsHigh (f : Byte → CC → Byte × CC) : Prop := ∀ m cc, (f m cc).2.high = cc.high

@[simp] theorem add16_keepsHigh : BinaryKeepsHigh add16 := fun _ _ _ => rfl
@[simp] theorem sub16_keepsHigh : BinaryKeepsHigh sub16 := fun _ _ _ => rfl
@[simp] theorem opSub_keepsHigh : BinaryKeepsHigh opSub := fun _ _ _ => rfl
@[simp] theorem opSbc_keepsHigh : BinaryKeepsHigh opSbc := fun _ _ _ => rfl
@[simp] theorem opAnd_keepsHigh : BinaryKeepsHigh opAnd := fun _ _ _ => rfl
@[simp] theorem opOr_keepsHigh : BinaryKeepsHigh opOr := fun _ _ _ => rfl
@[simp] theorem opEor_keepsHigh : BinaryKeepsHigh opEor := fun _ _ _ => rfl
@[simp] theorem opNeg_keepsHigh : UnaryKeepsHigh opNeg := fun _ _ => rfl
@[simp] theorem opInc_keepsHigh : UnaryKeepsHigh opInc := fun _ _ => rfl
@[simp] theorem opDec_keepsHigh : UnaryKeepsHigh opDec := fun _ _ => rfl
@[simp] theorem opCom_keepsHigh : UnaryKeepsHigh opCom := fun _ _ => rfl
@[simp] theorem opLsr_keepsHigh : UnaryKeepsHigh opLsr := fun _ _ => rfl
@[simp] theorem opAsr_keepsHigh : UnaryKeepsHigh opAsr := fun _ _ => rfl
@[simp] theorem opAsl_keepsHigh : UnaryKeepsHigh opAsl := fun _ _ => rfl
@[simp] theorem opRol_keepsHigh : UnaryKeepsHigh opRol := fun _ _ => rfl
@[simp] theorem opRor_keepsHigh : UnaryKeepsHigh opRor := fun _ _ => rfl
@[simp] theorem opMul_high (a b : Byte) (cc : CC) : (opMul a b cc).2.high = cc.high := rfl
@[simp] theorem opDaa_high (a : Byte) (cc : CC) : (opDaa a cc).2.high = cc.high := rfl
@[simp] theorem opSex_high (b : Byte) (cc : CC) : (opSex b cc).2.high = cc.high := rfl

/-! ### The shapes of the instructions -/

theorem Regs.put_cc {k : Reg} (hk : k ≠ .cc) (v : Word) (r : Regs) : (r.put k v).cc = r.cc := by
  cases k
  case cc => exact absurd rfl hk
  all_goals rfl

@[simp] theorem indexAddress_cc (f : IndexForm) (r : Regs) : (indexAddress f r).2.cc = r.cc := by
  obtain h | ⟨k, v, h⟩ := indexAddress_regs f r <;> rw [h]
  rw [Regs.setBase_cc]

section
variable (s : State)

@[simp] theorem State.operand8_cc (o : Operand8) : (s.operand8 o).2.regs.cc = s.regs.cc := by
  cases o <;> simp [State.operand8, State.ea_cc]

@[simp] theorem State.operand16_cc (o : Operand16) : (s.operand16 o).2.regs.cc = s.regs.cc := by
  cases o <;> simp [State.operand16, State.ea_cc]

theorem State.writeReg_cc {k : Reg} (hk : k ≠ .cc) (v : Word) : (s.writeReg k v).regs.cc = s.regs.cc := by
  rw [State.writeReg_eq]
  exact Regs.put_cc hk v s.regs

@[simp] theorem State.accOp_high {f : Byte → Byte → CC → Byte × CC} (hf : BinaryKeepsHigh f)
    (k : Acc) (o : Operand8) : (s.accOp f k o).regs.cc.high = s.regs.cc.high := by
  simp [State.accOp, hf _]

@[simp] theorem State.accTest_high {f : Byte → Byte → CC → Byte × CC} (hf : BinaryKeepsHigh f)
    (k : Acc) (o : Operand8) : (s.accTest f k o).regs.cc.high = s.regs.cc.high := by
  simp [State.accTest, hf _]

@[simp] theorem State.accUnary_high {f : Byte → CC → Byte × CC} (hf : UnaryKeepsHigh f) (k : Acc) :
    (s.accUnary f k).regs.cc.high = s.regs.cc.high := by
  simp [State.accUnary, hf _]

@[simp] theorem State.rmw_high {f : Byte → CC → Byte × CC} (hf : UnaryKeepsHigh f) (m : MemOperand) :
    (s.rmw f m).regs.cc.high = s.regs.cc.high := by
  simp [State.rmw, hf _, State.ea_cc]

@[simp] theorem State.load8_high (k : Acc) (o : Operand8) : (s.load8 k o).regs.cc.high = s.regs.cc.high := by
  simp [State.load8]

@[simp] theorem State.load16_high (k : Reg) (o : Operand16) : (s.load16 k o).regs.cc.high = s.regs.cc.high := by
  simp [State.load16]

@[simp] theorem State.store8_high (k : Acc) (m : MemOperand) : (s.store8 k m).regs.cc.high = s.regs.cc.high := by
  simp [State.store8, State.ea_cc]

@[simp] theorem State.store16_high (k : Reg) (m : MemOperand) : (s.store16 k m).regs.cc.high = s.regs.cc.high := by
  simp [State.store16, State.ea_cc]

theorem State.leaZ_high {k : Reg} (hk : k ≠ .cc) (ix : Indexed) : (s.leaZ k ix).regs.cc.high = s.regs.cc.high := by
  simp [State.leaZ, State.writeReg_cc _ hk, CC.high]

theorem State.leaQuiet_high {k : Reg} (hk : k ≠ .cc) (ix : Indexed) :
    (s.leaQuiet k ix).regs.cc.high = s.regs.cc.high := by
  simp [State.leaQuiet, State.writeReg_cc _ hk]

@[simp] theorem State.dOp_high {f : Word → Word → CC → Word × CC} (hf : BinaryKeepsHigh f)
    (o : Operand16) : (s.dOp f o).regs.cc.high = s.regs.cc.high := by
  simp [State.dOp, hf _]

@[simp] theorem State.cmp16_high (k : Reg) (o : Operand16) : (s.cmp16 k o).regs.cc.high = s.regs.cc.high := by
  simp [State.cmp16, sub16_keepsHigh _]

@[simp] theorem State.clearMem_high (m : MemOperand) : (s.clearMem m).regs.cc.high = s.regs.cc.high := by
  simp [State.clearMem, State.ea_cc]

@[simp] theorem State.testMem_high (m : MemOperand) : (s.testMem m).regs.cc.high = s.regs.cc.high := by
  simp [State.testMem, State.ea_cc]

@[simp] theorem State.clearAcc_high (k : Acc) : (s.clearAcc k).regs.cc.high = s.regs.cc.high := rfl

@[simp] theorem State.testAcc_high (k : Acc) : (s.testAcc k).regs.cc.high = s.regs.cc.high := rfl

theorem State.when_cc {f : State → State} (h : ∀ u : State, (f u).regs.cc = u.regs.cc) (p : Bool) :
    (s.when p f).regs.cc = s.regs.cc := by
  cases p
  · rfl
  · exact h s

@[simp] theorem State.pushList_cc (k : StackReg) (pb : Byte) : (s.pushList k pb).regs.cc = s.regs.cc := by
  simp [State.pushList, State.when_cc]

/-- A pull of a list without CC. -/
theorem State.pullList_cc (k : StackReg) {pb : Byte} (h : bit pb 0 = false) :
    (s.pullList k pb).regs.cc = s.regs.cc := by
  have pull8 {r : Reg} (hr : r ≠ .cc) (u : State) : (u.pullReg8 k r).regs.cc = u.regs.cc := by
    simp [State.pullReg8, State.writeReg_cc _ hr]
  have pull16 {r : Reg} (hr : r ≠ .cc) (u : State) : (u.pullReg16 k r).regs.cc = u.regs.cc := by
    simp [State.pullReg16, State.writeReg_cc _ hr]
  have hother : k.otherReg ≠ .cc := by cases k <;> decide
  have hnone : s.when (bit pb 0) (State.pullReg8 k .cc) = s := by rw [h]; rfl
  rw [State.pullList]
  rw [State.when_cc _ (pull16 (by decide)), State.when_cc _ (pull16 hother), State.when_cc _ (pull16 (by decide)),
    State.when_cc _ (pull16 (by decide)), State.when_cc _ (pull8 (by decide)), State.when_cc _ (pull8 (by decide)),
    State.when_cc _ (pull8 (by decide)), hnone]

@[simp] theorem State.branch_cc (taken : Bool) (off : Word) : (s.branch taken off).regs.cc = s.regs.cc := by
  simp [State.branch_eq]

@[simp] theorem State.branchSub_cc (off : Word) : (s.branchSub off).regs.cc = s.regs.cc := by
  simp [State.branchSub]

@[simp] theorem State.jump_cc (m : MemOperand) : (s.jump m).regs.cc = s.regs.cc := by
  simp [State.jump, State.ea_cc]

@[simp] theorem State.jumpSub_cc (m : MemOperand) : (s.jumpSub m).regs.cc = s.regs.cc := by
  simp [State.jumpSub, State.ea_cc]

@[simp] theorem State.returnSub_cc : s.returnSub.regs.cc = s.regs.cc := by
  simp [State.returnSub]

theorem State.transfer_cc {dst : Reg} (hdst : dst ≠ .cc) (src : Reg) : (s.transfer src dst).regs.cc = s.regs.cc := by
  unfold State.transfer
  split
  · exact s.writeReg_cc hdst _
  · rfl

theorem State.exchange_cc {r1 r2 : Reg} (h1 : r1 ≠ .cc) (h2 : r2 ≠ .cc) : (s.exchange r1 r2).regs.cc = s.regs.cc := by
  unfold State.exchange
  split
  · exact (State.writeReg_cc _ h2 _).trans (s.writeReg_cc h1 _)
  · rfl

end

/-! ### Every instruction -/

theorem State.accOp_cc (f : Byte → Byte → CC → Byte × CC) (k : Acc) (o : Operand8) (s : State) :
    (s.accOp f k o).regs.cc = (f ((s.operand8 o).2.regs.acc k) (s.operand8 o).1 s.regs.cc).2 := by
  simp [State.accOp]

theorem exists_operand8 {p : Operand8 → Prop} : (∃ o, p o) ↔ (∃ v, p (.imm v)) ∨ ∃ m, p (.mem m) := by
  constructor
  · rintro ⟨o, ho⟩
    cases o with
    | imm v => exact .inl ⟨v, ho⟩
    | mem m => exact .inr ⟨m, ho⟩
  · rintro (⟨x, h⟩ | ⟨x, h⟩) <;> exact ⟨_, h⟩

theorem computesH_of_add {i : Instr} (k : Acc) (h : ∃ o, i = .alu .add k o) : computesH i :=
  ⟨k, h.imp fun _ => .inl⟩

theorem computesH_of_adc {i : Instr} (k : Acc) (h : ∃ o, i = .alu .adc k o) : computesH i :=
  ⟨k, h.imp fun _ => .inr⟩

/-- An instruction computes H, is a software interrupt, writes CC as a whole, or completes with E, F, H and I as they
are. -/
theorem exec_high (i : Instr) (s : State) :
    computesH i ∨ softwareInterrupt i = true ∨ writesCC i = true ∨
      ∃ t, exec i s = .next t ∧ t.regs.cc.high = s.regs.cc.high := by
  cases i
  case addaImm | addaDir | addaIdx | addaExt =>
    exact .inl (computesH_of_add .a (by simp [exists_operand8, exists_memOperand, Instr.alu]))
  case addbImm | addbDir | addbIdx | addbExt =>
    exact .inl (computesH_of_add .b (by simp [exists_operand8, exists_memOperand, Instr.alu]))
  case adcaImm | adcaDir | adcaIdx | adcaExt =>
    exact .inl (computesH_of_adc .a (by simp [exists_operand8, exists_memOperand, Instr.alu]))
  case adcbImm | adcbDir | adcbIdx | adcbExt =>
    exact .inl (computesH_of_adc .b (by simp [exists_operand8, exists_memOperand, Instr.alu]))
  case swi | swi2 | swi3 => exact .inr (.inl rfl)
  all_goals refine .inr (.inr ?_)
  case andcc | orcc | cwai | rti => exact .inl rfl
  case tfr src dst =>
    by_cases hdst : dst = .cc
    · exact .inl (by simp [writesCC, hdst])
    · exact .inr ⟨_, rfl, congrArg CC.high (s.transfer_cc hdst src)⟩
  case exg r1 r2 =>
    by_cases hcc : r1 = .cc ∨ r2 = .cc
    · exact .inl (by simpa [writesCC] using hcc)
    · obtain ⟨h1, h2⟩ := not_or.mp hcc
      exact .inr ⟨_, rfl, congrArg CC.high (s.exchange_cc h1 h2)⟩
  case puls pb | pulu pb =>
    cases hcc : bit pb 0 with
    | true => exact .inl hcc
    | false => exact .inr ⟨_, rfl, congrArg CC.high (s.pullList_cc _ hcc)⟩
  case leax => exact .inr ⟨_, rfl, s.leaZ_high (k := .x) (by decide) _⟩
  case leay => exact .inr ⟨_, rfl, s.leaZ_high (k := .y) (by decide) _⟩
  case leas => exact .inr ⟨_, rfl, s.leaQuiet_high (k := .s) (by decide) _⟩
  case leau => exact .inr ⟨_, rfl, s.leaQuiet_high (k := .u) (by decide) _⟩
  all_goals exact .inr ⟨_, rfl, by simp⟩

/-- An addition with H keeps E, F and I. -/
theorem exec_computesH {i : Instr} {s t : State} (hexec : exec i s = .next t) (h : computesH i) :
    t.regs.cc.e = s.regs.cc.e ∧ t.regs.cc.f = s.regs.cc.f ∧ t.regs.cc.i = s.regs.cc.i := by
  obtain ⟨k, o, rfl | rfl⟩ := h
  all_goals
    rw [exec_alu] at hexec
    cases hexec
    rw [State.accOp_cc]
    exact (add8_result _ _ _ _).2

/-- A software interrupt keeps H. -/
theorem exec_softwareInterrupt {i : Instr} {s t : State} (hexec : exec i s = .next t) (h : softwareInterrupt i = true) :
    t.regs.cc.h = s.regs.cc.h := by
  obtain ⟨e, he⟩ : ∃ e : Event, exec i s = .next (s.takeException e) := by
    simp only [softwareInterrupt, Bool.or_eq_true, beq_iff_eq] at h
    obtain (rfl | rfl) | rfl := h
    · exact ⟨.swi, rfl⟩
    · exact ⟨.swi2, rfl⟩
    · exact ⟨.swi3, rfl⟩
  obtain rfl : s.takeException e = t := by simpa [he] using hexec
  rw [State.takeException_regs]
  cases e <;> rfl

/-- Settles O12: of the instructions that write no CC as a whole, only the additions with H and the software interrupts
write more of CC than N, Z, V and C, and each of these two keeps what the other one writes. -/
theorem onlyTheseWriteMasksAndHalfCarry : Obligations.OnlyTheseWriteMasksAndHalfCarry := by
  intro i s t hexec hcc
  rcases exec_high i s with hsum | hswi | hwhole | ⟨u, hu, hhigh⟩
  · exact ⟨fun _ => exec_computesH hexec hsum, fun hno => absurd hsum hno⟩
  · exact ⟨fun hno => absurd (hno.symm.trans hswi) nofun, fun _ => exec_softwareInterrupt hexec hswi⟩
  · exact absurd (hcc.symm.trans hwhole) nofun
  · obtain rfl : u = t := by simpa [hu] using hexec
    obtain ⟨he, hf, hh, hi⟩ := CC.high_eq_iff.mp hhigh
    exact ⟨fun _ => ⟨he, hf, hi⟩, fun _ => hh⟩

end Sys2Proof.Machine

/-! ## CC as a byte, the double accumulator and the reset

These are spec/10_state.md R31, R37 and R57 and spec/70_reset_and_hazards.md R670 to R672. -/

namespace Sys2Proof.Machine
open Sys2Proof.Reference

theorem CC.ofByte_or (b m : Byte) : CC.ofByte (b ||| m) = (CC.ofByte b).or (CC.ofByte m) := by
  simp only [CC.ofByte, CC.or, bit, BitVec.getLsbD_or]

theorem CC.toByte_and (cc : CC) (m : Byte) : (cc.and (CC.ofByte m)).toByte = cc.toByte &&& m := by
  rw [← CC.ofByte_toByte cc, ← CC.ofByte_and, CC.toByte_ofByte, CC.toByte_ofByte]

theorem CC.toByte_or (cc : CC) (m : Byte) : (cc.or (CC.ofByte m)).toByte = cc.toByte ||| m := by
  rw [← CC.ofByte_toByte cc, ← CC.ofByte_or, CC.toByte_ofByte, CC.toByte_ofByte]

/-- Settles O35: ANDCC and ORCC work flag by flag, which is bit by bit of the byte. -/
theorem conditionCodeLogic : Obligations.ConditionCodeLogic :=
  ⟨CC.toByte_ofByte, CC.ofByte_toByte, fun m s => ⟨rfl, _, rfl, s.regs.cc.toByte_and m⟩,
    fun m s => ⟨rfl, _, rfl, s.regs.cc.toByte_or m⟩, rfl, fun _ => rfl⟩

theorem toNat_joinBytes (h l : Byte) : (joinBytes h l).toNat = 256 * h.toNat + l.toNat := by
  rw [joinBytes_eq_ofNat, BitVec.toNat_ofNat]
  omega

theorem toNat_loByte (w : Word) : (loByte w).toNat = w.toNat % 256 := by
  rw [loByte_eq_ofNat, BitVec.toNat_ofNat]
  omega

/-- Settles O36: D is the word of A and B, and a write of one of the three sets its bytes. -/
theorem doubleAccumulator : Obligations.DoubleAccumulator := by
  refine fun r v => ⟨toNat_joinBytes r.a r.b, joinBytes_hiByte_loByte v, ?_, ?_, ?_⟩
  · have hlow : loByte v = BitVec.ofNat 8 v.toNat := BitVec.eq_of_toNat_eq (toNat_loByte v)
    rw [Regs.put, Regs.setD, hiByte_eq_ofNat, hlow]
  · exact (toNat_joinBytes (loByte v) r.b).trans (by rw [toNat_loByte])
  · exact (toNat_joinBytes r.a (loByte v)).trans (by rw [toNat_loByte])

theorem State.resetCore_tags (kind : ResetKind) (s : State) : (s.resetCore kind).tags = s.tags := by cases kind <;> rfl

theorem State.resetCore_mem (kind : ResetKind) (s : State) : (s.resetCore kind).mem = s.mem := by cases kind <;> rfl

/-- A reset through a vector in cells without a handler. -/
theorem State.executiveReset_plainFrom {s : State} (h : PlainFrom s 0xFFFE 2) (kind : ResetKind) :
    s.executiveReset kind = (s.resetCore kind).setPC (wordAt s 0xFFFE) := by
  rw [State.executiveReset, State.readWord_plainFrom (h.of_tags_eq (s.resetCore_tags kind)),
    wordAt_congr (s.resetCore_mem kind)]

/-- Settles O59: the steps before the vector change the peripherals, the latches and the executive for both kinds of reset,
and draw the registers but DP, I and F for a cold one. -/
theorem resetValues : Obligations.ResetValues := by
  intro s hplain dev exe
  refine ⟨State.executiveReset_plainFrom hplain .warm, ((s.resetCore .cold).setPC (wordAt s 0xFFFE)).regs, rfl, rfl, rfl,
    rfl, State.executiveReset_plainFrom hplain .cold⟩

end Sys2Proof.Machine
